-- ==== Sys2Proof/Word.lean ====
section
/-! DEFINITION. The word types of the block: the command word and the two operand types. -/

namespace Sys2Proof

/-- The 40-bit command word `CMD` (30_encoding.md R44). -/
abbrev Command := BitVec 40

/-- A form D operand: an unsigned duration, `DW = 32` bits (00_scope.md R6, 30_encoding.md R45). -/
abbrev Duration := BitVec 32

/-- A clock frequency in Hz, `FW = 32` bits (00_scope.md R6, 20_memory.md R30). -/
abbrev Freq := BitVec 32

/-- A duration in a 64-bit result, `XW = 64` bits (00_scope.md R6, 10_state.md R12). -/
abbrev Result := BitVec 64

end Sys2Proof
end

