-- ==== Sys2Proof/Config.lean ====
section
/-! DEFINITION. What an implementation fixes (00_scope.md R6), as plain data held in State, and the free values. -/

namespace Sys2Proof

/-- The two capability bits: which optional commands exist on this variant (10_state.md R21). -/
structure Caps where
  /-- `CAP_DBG`: the `IW.DBG` command exists. -/
  dbg : Bool
  /-- `CAP_IRQ`: the `WW.EWI` command exists. -/
  irq : Bool
  deriving DecidableEq, Repr

/-- The parameters the source leaves open (00_scope.md R6). State holds one, so that every statement about every
state is a statement about every choice of them (log entry 16). -/
structure Config where
  /-- `CAP_DBG`, `CAP_IRQ`. -/
  caps : Caps
  /-- `PMAX_W`, the window watchdog's largest prescaler index, 0 to 7. -/
  pmaxW : BitVec 3
  /-- `T_OR`, ORed into every value written to `t`. -/
  tOr : BitVec 7
  /-- `W_OR`, ORed into every value written to `w`. -/
  wOr : BitVec 7
  deriving DecidableEq, Repr

/-- Both optional commands present: every row of the opcode table decodes. -/
def Caps.both : Caps := { dbg := true, irq := true }

/-- The defaults of 00_scope.md R6. DESIGN CHOICE (log entry 16): the two capability bits have no default, and are
taken as 1, as 95_test_vectors.md does. PRESUMED by the spec itself: `PMAX_W = 7` (general knowledge, R6). -/
def Config.default : Config := { caps := Caps.both, pmaxW := 7#3, tOr := 0#7, wOr := 0#7 }

/-- The spec's `draw_N()`: the `n`-th free value of `w` bits. It has no body, so nothing can be proved of a value of
it and whatever is proved holds for every value (log entry 5). The counter is `State.draws`. -/
opaque Config.draw (w n : Nat) : BitVec w

end Sys2Proof
end

