-- ==== Sys2Proof/Syntax.lean ====
section
/-! DEFINITION. The fourteen commands, one constructor per row of spec/opcode_table.json (30_encoding.md R47). -/

namespace Sys2Proof

/-- A command with its operand: form D carries a duration, form B a flag, form N nothing (30_encoding.md R45). -/
inductive Instr where
  /-- `QNT.I d`, 0x01: quantize for the independent watchdog, `d` in milliseconds. -/
  | qntI (d : Duration)
  /-- `QNT.W d`, 0x02: quantize for the window watchdog, `d` in microseconds. -/
  | qntW (d : Duration)
  /-- `DEC.I`, 0x03: decode `QP`, `QR` as an independent watchdog pair. -/
  | decI
  /-- `DEC.W`, 0x04: decode `QP`, `QR` as a window watchdog pair. -/
  | decW
  /-- `IW.START d`, 0x10: quantize and arm, `d` in milliseconds. -/
  | iwStart (d : Duration)
  /-- `IW.FEED`, 0x11: write the refresh key. -/
  | iwFeed
  /-- `IW.IVAL`, 0x12: read back the configured interval, in milliseconds. -/
  | iwIval
  /-- `IW.DBG stop`, 0x13: configure the debug-halt freeze; exists with `CAP_DBG`. -/
  | iwDbg (stop : Bool)
  /-- `WW.NEW`, 0x20: enable the bus-clock gate. -/
  | wwNew
  /-- `WW.SETWIN d`, 0x21: configure the window, `d` in microseconds. -/
  | wwSetwin (d : Duration)
  /-- `WW.START d`, 0x22: quantize, cache, feed and enable, `d` in microseconds. -/
  | wwStart (d : Duration)
  /-- `WW.FEED`, 0x23: rewrite the counter from the cached reload. -/
  | wwFeed
  /-- `WW.IVAL`, 0x24: report the configured interval, in microseconds. -/
  | wwIval
  /-- `WW.EWI enabled`, 0x25: configure the early wakeup interrupt; exists with `CAP_IRQ`. -/
  | wwEwi (enabled : Bool)
  deriving DecidableEq, Repr

end Sys2Proof
end

