-- ==== Sys2Proof/WellFormed.lean ====
section
/-! DEFINITION. Which commands exist on a variant. Operand widths need no check: the constructors' types fix them. -/

namespace Sys2Proof

/-- The command exists on a variant with these capabilities (30_encoding.md R50): `IW.DBG` needs `CAP_DBG`, `WW.EWI`
needs `CAP_IRQ`, every other command is always there. -/
def WellFormed (c : Caps) : Instr → Bool
  | .iwDbg _ => c.dbg
  | .wwEwi _ => c.irq
  | .qntI _ => true
  | .qntW _ => true
  | .decI => true
  | .decW => true
  | .iwStart _ => true
  | .iwFeed => true
  | .iwIval => true
  | .wwNew => true
  | .wwSetwin _ => true
  | .wwStart _ => true
  | .wwFeed => true
  | .wwIval => true

end Sys2Proof
end

