-- ==== Sys2Proof/Decode.lean ====
section
/-! DEFINITION. Decode and encode of the 40-bit command word (30_encoding.md R44 to R50), the opcode map as rows of
mask and match, and the assembler's text form (R52). -/

namespace Sys2Proof

/-- Why a word is illegal (30_encoding.md R49); each raises `ILLCMD` (60_exceptions.md R92). -/
inductive DecodeError where
  /-- `OP` is not in the opcode map. -/
  | unassignedOp
  /-- `OP` is in the map but its capability bit is 0 (R50). -/
  | capabilityAbsent
  /-- A reserved operand bit is set (R48). -/
  | reservedBits
  deriving DecidableEq, Repr

/-- `OP = CMD[39:32]` (30_encoding.md R44). -/
def opOf (w : Command) : BitVec 8 := w.extractLsb' 32 8

/-- `ARG = CMD[31:0]` (30_encoding.md R44). -/
def argOf (w : Command) : BitVec 32 := w.extractLsb' 0 32

/-- `{OP, ARG}` (00_scope.md R8). -/
def wordOf (op : BitVec 8) (arg : BitVec 32) : Command := op ++ arg

/-- Form N: `ARG[31:0]` must be zero (30_encoding.md R45, R48). -/
def formN (arg : BitVec 32) (i : Instr) : Except DecodeError Instr :=
  if arg = 0#32 then .ok i else .error .reservedBits

/-- Form B: `ARG[0]` is the flag, `ARG[31:1]` must be zero (30_encoding.md R45, R48). -/
def formB (arg : BitVec 32) (f : Bool → Instr) : Except DecodeError Instr :=
  if arg.extractLsb' 1 31 = 0#31 then .ok (f (arg.getLsbD 0)) else .error .reservedBits

/-- The capability check stands before the check of the reserved bits (30_encoding.md R46). -/
def ifCap (present : Bool) (r : Except DecodeError Instr) : Except DecodeError Instr :=
  if present then r else .error .capabilityAbsent

/-- Decode of an accepted word (30_encoding.md R46) over the opcode map of R47. It reads no state but the capability
bits, and is total: a word that is no command is refused by the name of what is wrong with it. -/
def decode (c : Caps) (w : Command) : Except DecodeError Instr :=
  let op := opOf w
  let arg := argOf w
  if op = 0x01#8 then .ok (.qntI arg)
  else if op = 0x02#8 then .ok (.qntW arg)
  else if op = 0x03#8 then formN arg .decI
  else if op = 0x04#8 then formN arg .decW
  else if op = 0x10#8 then .ok (.iwStart arg)
  else if op = 0x11#8 then formN arg .iwFeed
  else if op = 0x12#8 then formN arg .iwIval
  else if op = 0x13#8 then ifCap c.dbg (formB arg .iwDbg)
  else if op = 0x20#8 then formN arg .wwNew
  else if op = 0x21#8 then .ok (.wwSetwin arg)
  else if op = 0x22#8 then .ok (.wwStart arg)
  else if op = 0x23#8 then formN arg .wwFeed
  else if op = 0x24#8 then formN arg .wwIval
  else if op = 0x25#8 then ifCap c.irq (formB arg .wwEwi)
  else .error .unassignedOp

/-- The flag operand of form B in its 32-bit place (30_encoding.md R45). -/
def flagArg (b : Bool) : BitVec 32 := (BitVec.ofBool b).setWidth 32

/-- The word of a command (30_encoding.md R44, R45, R47). -/
def encode : Instr → Command
  | .qntI d => wordOf 0x01#8 d
  | .qntW d => wordOf 0x02#8 d
  | .decI => wordOf 0x03#8 0#32
  | .decW => wordOf 0x04#8 0#32
  | .iwStart d => wordOf 0x10#8 d
  | .iwFeed => wordOf 0x11#8 0#32
  | .iwIval => wordOf 0x12#8 0#32
  | .iwDbg stop => wordOf 0x13#8 (flagArg stop)
  | .wwNew => wordOf 0x20#8 0#32
  | .wwSetwin d => wordOf 0x21#8 d
  | .wwStart d => wordOf 0x22#8 d
  | .wwFeed => wordOf 0x23#8 0#32
  | .wwIval => wordOf 0x24#8 0#32
  | .wwEwi enabled => wordOf 0x25#8 (flagArg enabled)

/-- One row of spec/opcode_table.json: a word is the row's when `CMD & mask = match` (30_encoding.md R46). -/
structure OpcodeRow where
  mnemonic : String
  mask : Command
  pattern : Command
  deriving DecidableEq, Repr

/-- The fourteen rows of spec/opcode_table.json, `match` under the name `pattern`. -/
def opcodeRows : List OpcodeRow :=
  [ ⟨"QNT.I", 0xFF00000000#40, 0x0100000000#40⟩,
    ⟨"QNT.W", 0xFF00000000#40, 0x0200000000#40⟩,
    ⟨"DEC.I", 0xFFFFFFFFFF#40, 0x0300000000#40⟩,
    ⟨"DEC.W", 0xFFFFFFFFFF#40, 0x0400000000#40⟩,
    ⟨"IW.START", 0xFF00000000#40, 0x1000000000#40⟩,
    ⟨"IW.FEED", 0xFFFFFFFFFF#40, 0x1100000000#40⟩,
    ⟨"IW.IVAL", 0xFFFFFFFFFF#40, 0x1200000000#40⟩ ] ++
  [ ⟨"IW.DBG", 0xFFFFFFFFFE#40, 0x1300000000#40⟩,
    ⟨"WW.NEW", 0xFFFFFFFFFF#40, 0x2000000000#40⟩,
    ⟨"WW.SETWIN", 0xFF00000000#40, 0x2100000000#40⟩,
    ⟨"WW.START", 0xFF00000000#40, 0x2200000000#40⟩,
    ⟨"WW.FEED", 0xFFFFFFFFFF#40, 0x2300000000#40⟩,
    ⟨"WW.IVAL", 0xFFFFFFFFFF#40, 0x2400000000#40⟩,
    ⟨"WW.EWI", 0xFFFFFFFFFE#40, 0x2500000000#40⟩ ]

/-- The word `w` is a word of the row `r`. -/
def OpcodeRow.fits (r : OpcodeRow) (w : Command) : Bool := w &&& r.mask == r.pattern

/-- What this decoder reads from an instruction of `nbits` bits, numbered as the opcode table numbers them: the table's
number is the command word itself, bit 0 least significant (30_encoding.md R44, 20_memory.md R39). Both capability
bits are taken as present, as the table's rows are. -/
def decodeTableWord (nbits w : Nat) : Option Instr :=
  if nbits ≤ 40 ∧ w < 2 ^ nbits then
    match decode Caps.both (BitVec.ofNat 40 w) with
    | .ok i => some i
    | .error _ => none
  else none

/-- The mnemonic of a command, as 30_encoding.md R47 spells it. -/
def mnemonicOf : Instr → String
  | .qntI _ => "QNT.I"
  | .qntW _ => "QNT.W"
  | .decI => "DEC.I"
  | .decW => "DEC.W"
  | .iwStart _ => "IW.START"
  | .iwFeed => "IW.FEED"
  | .iwIval => "IW.IVAL"
  | .iwDbg _ => "IW.DBG"
  | .wwNew => "WW.NEW"
  | .wwSetwin _ => "WW.SETWIN"
  | .wwStart _ => "WW.START"
  | .wwFeed => "WW.FEED"
  | .wwIval => "WW.IVAL"
  | .wwEwi _ => "WW.EWI"

/-- The value of a digit character in a base of at most 16. -/
def digitValue (base : Nat) (ch : Char) : Option Nat :=
  let n := ch.toNat
  let v :=
    if 48 ≤ n ∧ n ≤ 57 then n - 48
    else if 65 ≤ n ∧ n ≤ 70 then n - 55
    else if 97 ≤ n ∧ n ≤ 102 then n - 87
    else 16
  if v < base then some v else none

/-- The number a list of digits writes, read from the left onto `acc`. -/
def digitsValue (base : Nat) : List Char → Nat → Option Nat
  | [], acc => some acc
  | ch :: rest, acc =>
    match digitValue base ch with
    | some v => digitsValue base rest (acc * base + v)
    | none => none

/-- A form D literal: unsigned decimal, or hexadecimal after `0x`, in 0 to 4294967295 (30_encoding.md R52). -/
def literalD (cs : List Char) : Option Duration :=
  let n :=
    match cs with
    | '0' :: 'x' :: h :: rest => digitsValue 16 (h :: rest) 0
    | ch :: rest => digitsValue 10 (ch :: rest) 0
    | [] => none
  match n with
  | some v => if v < 2 ^ 32 then some (BitVec.ofNat 32 v) else none
  | none => none

/-- A form B literal: `0` or `1` (30_encoding.md R52). -/
def literalB : List Char → Option Bool
  | ['0'] => some false
  | ['1'] => some true
  | _ => none

/-- A form N command is followed by nothing (30_encoding.md R52). -/
def literalN (i : Instr) : List Char → Option Instr
  | [] => some i
  | _ => none

/-- The spec's assembler (30_encoding.md R52): a mnemonic and the characters of its one literal, if it has one. There
are no pseudo-instructions (R53). -/
def assemble (mnemonic : String) (lit : List Char) : Option Instr :=
  if mnemonic = "QNT.I" then (literalD lit).map .qntI
  else if mnemonic = "QNT.W" then (literalD lit).map .qntW
  else if mnemonic = "DEC.I" then literalN .decI lit
  else if mnemonic = "DEC.W" then literalN .decW lit
  else if mnemonic = "IW.START" then (literalD lit).map .iwStart
  else if mnemonic = "IW.FEED" then literalN .iwFeed lit
  else if mnemonic = "IW.IVAL" then literalN .iwIval lit
  else if mnemonic = "IW.DBG" then (literalB lit).map .iwDbg
  else if mnemonic = "WW.NEW" then literalN .wwNew lit
  else if mnemonic = "WW.SETWIN" then (literalD lit).map .wwSetwin
  else if mnemonic = "WW.START" then (literalD lit).map .wwStart
  else if mnemonic = "WW.FEED" then literalN .wwFeed lit
  else if mnemonic = "WW.IVAL" then literalN .wwIval lit
  else if mnemonic = "WW.EWI" then (literalB lit).map .wwEwi
  else none

end Sys2Proof
end

