-- ==== Sys2Proof/Machine/State.lean ====
section
/-! DEFINITION. The machine's state as plain data, the transactions it emits, the events of the world around it, the
reasons a step can stop, and the state after reset. -/

namespace Sys2Proof.Machine

/-- The two clock domains of the clock-query space (20_memory.md R30). -/
inductive Domain where
  /-- The low-speed internal oscillator, for the independent watchdog. -/
  | lsi
  /-- The peripheral bus clock, for the window watchdog. -/
  | pclk
  deriving DecidableEq, Repr

/-- The eleven fields of the field space (20_memory.md R28), in the order of their field addresses. -/
inductive Field where
  /-- fa 0, `IWDG_KR.key`. -/
  | key
  /-- fa 1, `IWDG_PR.pr`. -/
  | pr
  /-- fa 2, `IWDG_RLR.rl`. -/
  | rl
  /-- fa 3, `WWDG_CR.t`. -/
  | t
  /-- fa 4, `WWDG_CR.wdga`. -/
  | wdga
  /-- fa 5, `WWDG_CFR.w`. -/
  | w
  /-- fa 6, `WWDG_CFR.wdgtb`. -/
  | wdgtb
  /-- fa 7, `WWDG_CFR.ewi`. -/
  | ewi
  /-- fa 8, `CLKGATE.wwdg`. -/
  | clkgate
  /-- fa 9, `DBGFRZ.iwdg`. -/
  | dbgfrz
  /-- fa 10, `IRQMASK.wwdg`. -/
  | irqmask
  deriving DecidableEq, Repr

/-- The field address `fa` (20_memory.md R28). -/
def Field.addr : Field → Nat
  | .key => 0
  | .pr => 1
  | .rl => 2
  | .t => 3
  | .wdga => 4
  | .w => 5
  | .wdgtb => 6
  | .ewi => 7
  | .clkgate => 8
  | .dbgfrz => 9
  | .irqmask => 10

/-- The field's width `n` in bits (20_memory.md R28; `WTB_W = 3`, 00_scope.md R6). -/
@[reducible] def Field.width : Field → Nat
  | .key => 16
  | .pr => 3
  | .rl => 12
  | .t => 7
  | .wdga => 1
  | .w => 7
  | .wdgtb => 3
  | .ewi => 1
  | .clkgate => 1
  | .dbgfrz => 1
  | .irqmask => 1

/-- The eight registers that the fields lie in (20_memory.md R28): the part of a field's name before the dot. -/
inductive Register where
  | iwdgKr
  | iwdgPr
  | iwdgRlr
  | wwdgCr
  | wwdgCfr
  | clkgateReg
  | dbgfrzReg
  | irqmaskReg
  deriving DecidableEq, Repr

/-- The register that contains the field (20_memory.md R28, R31). -/
def Field.register : Field → Register
  | .key => .iwdgKr
  | .pr => .iwdgPr
  | .rl => .iwdgRlr
  | .t => .wwdgCr
  | .wdga => .wwdgCr
  | .w => .wwdgCfr
  | .wdgtb => .wwdgCfr
  | .ewi => .wwdgCfr
  | .clkgate => .clkgateReg
  | .dbgfrz => .dbgfrzReg
  | .irqmask => .irqmaskReg

/-- A value on its way into a field: what one `MemWrite` names (20_memory.md R31). -/
structure FieldWrite where
  field : Field
  value : BitVec field.width
  deriving DecidableEq, Repr

/-- One transaction of the trace (20_memory.md R34). The value's type is the field's width, so that an access moves
exactly one whole field and the value always fits (R29). -/
inductive Transaction where
  /-- `ClkQuery(dom) -> f`. -/
  | clkQuery (dom : Domain) (f : Freq)
  /-- `MemRead(fa, n) -> v`. -/
  | memRead (fa : Field) (v : BitVec fa.width)
  /-- `MemWrite(fa, n, v)`. -/
  | memWrite (fa : Field) (v : BitVec fa.width)
  deriving DecidableEq, Repr

/-- The values the eleven external fields hold (10_state.md R22 to R24). They are the environment's, not WDGQ's. -/
structure Fields where
  key : BitVec 16
  pr : BitVec 3
  rl : BitVec 12
  t : BitVec 7
  wdga : BitVec 1
  w : BitVec 7
  wdgtb : BitVec 3
  ewi : BitVec 1
  clkgate : BitVec 1
  dbgfrz : BitVec 1
  irqmask : BitVec 1
  deriving DecidableEq, Repr

/-- The environment at WDGQ's boundary: what it answers to a query or a read, and what a write leaves in it (00_scope.md
R7 (3), 60_exceptions.md R101 to R103). DESIGN CHOICE, log entry 9. -/
structure Env where
  /-- The frequency of the low-speed oscillator, in Hz, that a query is answered with (20_memory.md R30). -/
  lsi : Freq
  /-- The frequency of the peripheral bus clock, in Hz. -/
  pclk : Freq
  fields : Fields
  /-- Whether `pr` and `rl` are unlocked for writing (10_state.md R26 (a)). -/
  unlocked : Bool
  /-- Whether the start key has been written, so that the independent watchdog counts (60_exceptions.md R102). -/
  counting : Bool
  deriving DecidableEq, Repr

/-- What moves next (00_scope.md R7: four agents; 70_reset_and_hazards.md R109: the reset input). The schedule is plain
data in State; an empty schedule lets WDGQ move (DESIGN CHOICE, log entry 14). -/
inductive Event where
  /-- WDGQ performs its next step. -/
  | wdgq
  /-- The host presents a command word on the command port (30_encoding.md R54). -/
  | present (w : Command)
  /-- The reset input is asserted, whatever the source (70_reset_and_hazards.md R109). -/
  | reset
  /-- The clock tree is reconfigured: the domain now runs at `f` Hz (20_memory.md R43). -/
  | clock (dom : Domain) (f : Freq)
  /-- The environment itself changes a field, for example a counter that runs down (`Env.drift`). -/
  | drift (fa : Field) (v : BitVec fa.width)
  /-- Another writer writes a field through the register interface (70_reset_and_hazards.md R117). -/
  | intrude (fa : Field) (v : BitVec fa.width)
  /-- WDGQ performs its next step, and another writer's writes fall inside it: where the step performs a `MemWrite`,
  between the read and the write back of its read-modify-write (20_memory.md R37; log entry 25). -/
  | within (ws : List FieldWrite)
  deriving DecidableEq, Repr

/-- The state of a watchdog controller (10_state.md R15, R16): one-way, `Unstarted` to `Running`. -/
inductive Controller where
  | unstarted
  | running
  deriving DecidableEq, Repr

/-- The contents of the 2-bit fault register (10_state.md R18, 60_exceptions.md R90). -/
inductive FaultCode where
  /-- 0: no fault. -/
  | none
  /-- 1, `WZERO`: the quantized window count is zero (60_exceptions.md R91). -/
  | wzero
  /-- 2, `ILLCMD`: the word is illegal (60_exceptions.md R92). -/
  | illcmd
  /-- 3, `SEQERR`: a window watchdog command before `WW.NEW` (60_exceptions.md R93). -/
  | seqerr
  deriving DecidableEq, Repr

/-- Everything the spec gives the machine (10_state.md), its environment's boundary, and the model's own two fields
`sched` and `draws`. -/
structure State where
  /-- The parameters, which no step changes (00_scope.md R6, 10_state.md R21). -/
  cfg : Config
  /-- `q[0] = QP`, a prescaler index (10_state.md R10). -/
  qp : BitVec 3
  /-- `q[1] = QR`, a reload count (10_state.md R10). -/
  qr : BitVec 12
  /-- `q[2] = RES`, a duration (10_state.md R10, R12). -/
  res : Result
  /-- `BUSY` (10_state.md R13). -/
  busy : Bool
  /-- `SEQ`, the number of the next transaction (10_state.md R13). -/
  seq : BitVec 3
  /-- `CMDR`, the accepted word (10_state.md R14). -/
  cmdr : Command
  /-- `FQ`, the frequency the command's query returned (10_state.md R14). -/
  fq : Freq
  /-- `RB`, the prescaler index read back (10_state.md R14). -/
  rb : BitVec 3
  /-- `IWDG_ST` (10_state.md R15). -/
  iwdgSt : Controller
  /-- `WWDG_ST` (10_state.md R16). -/
  wwdgSt : Controller
  /-- `WCK`: `WW.NEW` has completed (10_state.md R17). -/
  wck : Bool
  /-- `HALT` (10_state.md R18). -/
  halt : Bool
  /-- `FAULT` (10_state.md R18). -/
  fault : FaultCode
  /-- `FCMD`, the word that faulted (10_state.md R18). -/
  fcmd : Command
  /-- `RLC`, the cached reload (10_state.md R19). -/
  rlc : BitVec 6
  /-- The words presented on the command port and not yet accepted, the oldest first (30_encoding.md R54). -/
  pending : List Command
  /-- The transactions emitted since reset, the oldest first (20_memory.md R34). -/
  trace : List Transaction
  /-- The transactions emitted before the last reset, which stay emitted (70_reset_and_hazards.md R110). -/
  earlier : List Transaction
  /-- The environment's boundary. -/
  env : Env
  /-- The model's own: the schedule of what moves next. -/
  sched : List Event
  /-- The model's own: the number of the next free value (log entry 5). -/
  draws : Nat
  deriving DecidableEq, Repr

/-- Why a step stops altogether. The spec's three faults are no such stop: their entry is a next state
(60_exceptions.md R94). -/
inductive Fault where
  /-- Raised by every meaning when `SEQ` is past the command's last transaction. 10_state.md R13 rules it out and no run
  reaches it. Safe: the model stops where the hardware has no behaviour. Log entry 4. -/
  | seqOutOfRange
  deriving DecidableEq, Repr

/-- Why an instruction has no meaning. -/
inductive Refusal where
  /-- The instruction of this mnemonic has no meaning yet. Raised only by an arm of `exec`, and no arm raises it. Safe. -/
  | notModelled (mnemonic : String)
  deriving DecidableEq, Repr

/-- How many free values a reset draws (`Env.drawn` and `State.drawn`). -/
def resetDraws : Nat := 23

/-- The environment after a reset: nothing is said of any of it, so all of it is drawn (70_reset_and_hazards.md R111). -/
def Env.drawn (n : Nat) : Env :=
  { lsi := Config.draw 32 n
    pclk := Config.draw 32 (n + 1)
    fields :=
      { key := Config.draw 16 (n + 2)
        pr := Config.draw 3 (n + 3)
        rl := Config.draw 12 (n + 4)
        t := Config.draw 7 (n + 5)
        wdga := Config.draw 1 (n + 6)
        w := Config.draw 7 (n + 7)
        wdgtb := Config.draw 3 (n + 8)
        ewi := Config.draw 1 (n + 9)
        clkgate := Config.draw 1 (n + 10)
        dbgfrz := Config.draw 1 (n + 11)
        irqmask := Config.draw 1 (n + 12) }
    unlocked := Config.draw 1 (n + 13) == 1#1
    counting := Config.draw 1 (n + 14) == 1#1 }

/-- The reset state of a machine with the parameters `c`, its unspecified registers drawn from the `n`-th free value on
(10_state.md R27, 70_reset_and_hazards.md R110). Log entries 6 and 7. -/
def State.drawn (c : Config) (n : Nat) : State :=
  { cfg := c
    qp := Config.draw 3 (n + 15)
    qr := Config.draw 12 (n + 16)
    res := Config.draw 64 (n + 17)
    busy := false
    seq := 0#3
    cmdr := Config.draw 40 (n + 18)
    fq := Config.draw 32 (n + 19)
    rb := Config.draw 3 (n + 20)
    iwdgSt := .unstarted
    wwdgSt := .unstarted
    wck := false
    halt := false
    fault := .none
    fcmd := Config.draw 40 (n + 21)
    rlc := Config.draw 6 (n + 22)
    pending := []
    trace := []
    earlier := []
    env := Env.drawn n
    sched := []
    draws := n + resetDraws }

/-- The machine right after reset, with the default parameters (10_state.md R27, 00_scope.md R6). -/
def State.reset : State := State.drawn Config.default 0

end Sys2Proof.Machine
end

