-- ==== Sys2Proof/Machine/Ops.lean ====
section
/-! DEFINITION. The operations every meaning is written over: the environment's fields, the three transactions, the
sequence index, the registers, fault entry and reset. -/

namespace Sys2Proof.Machine

/-- The value a field holds. -/
def Fields.get (m : Fields) : (fa : Field) → BitVec fa.width
  | .key => m.key
  | .pr => m.pr
  | .rl => m.rl
  | .t => m.t
  | .wdga => m.wdga
  | .w => m.w
  | .wdgtb => m.wdgtb
  | .ewi => m.ewi
  | .clkgate => m.clkgate
  | .dbgfrz => m.dbgfrz
  | .irqmask => m.irqmask

/-- One field set, every other field as it was (20_memory.md R31). -/
def Fields.set (m : Fields) : (fa : Field) → BitVec fa.width → Fields
  | .key, v => { m with key := v }
  | .pr, v => { m with pr := v }
  | .rl, v => { m with rl := v }
  | .t, v => { m with t := v }
  | .wdga, v => { m with wdga := v }
  | .w, v => { m with w := v }
  | .wdgtb, v => { m with wdgtb := v }
  | .ewi, v => { m with ewi := v }
  | .clkgate, v => { m with clkgate := v }
  | .dbgfrz, v => { m with dbgfrz := v }
  | .irqmask, v => { m with irqmask := v }

/-- `KEY_UNLOCK` (00_scope.md R5). -/
def keyUnlock : BitVec 16 := 0x5555#16

/-- `KEY_FEED` (00_scope.md R5), the key that refreshes the counter and locks. -/
def keyFeed : BitVec 16 := 0xAAAA#16

/-- `KEY_START` (00_scope.md R5). -/
def keyStart : BitVec 16 := 0xCCCC#16

/-- The frequency a query of a domain is answered with (20_memory.md R30). -/
def Env.freq (e : Env) : Domain → Freq
  | .lsi => e.lsi
  | .pclk => e.pclk

/-- A domain's frequency changed (20_memory.md R43). -/
def Env.setFreq (e : Env) : Domain → Freq → Env
  | .lsi, f => { e with lsi := f }
  | .pclk, f => { e with pclk := f }

/-- What a window watchdog field takes from a written value: its registers need the bus-clock gate (20_memory.md R42),
and without it the spec does not say. Log entry 12. -/
def Env.gated {w : Nat} (e : Env) (v : BitVec w) (n : Nat) : BitVec w :=
  if e.fields.clkgate = 1#1 then v else Config.draw w n

/-- What `pr` and `rl` take from a written value: it while they are unlocked; what a locked write does is not stated
(10_state.md R26 (a)). Log entry 11. -/
def Env.ifUnlocked {w : Nat} (e : Env) (v : BitVec w) (n : Nat) : BitVec w :=
  if e.unlocked then v else Config.draw w n

/-- `wdga` after a write: once set it cannot be cleared by software (10_state.md R23). -/
def Env.wdgaAfter (e : Env) (v : BitVec 1) (n : Nat) : BitVec 1 := e.fields.wdga ||| e.gated v n

/-- `ewi` after a write: whether software can clear it once set is not stated (42_wwdg.md R84). Log entry 13. -/
def Env.ewiAfter (e : Env) (v : BitVec 1) (n : Nat) : BitVec 1 :=
  if e.fields.ewi = 1#1 ∧ v = 0#1 then Config.draw 1 n else e.gated v n

/-- The value a field holds after a write of `v` to it; where the spec does not say which, it is the `n`-th free value.
Every other field keeps its value (`Fields.set`). -/
def Env.stored (e : Env) : (fa : Field) → BitVec fa.width → Nat → BitVec fa.width
  | .key, v, _ => v
  | .pr, v, n => e.ifUnlocked v n
  | .rl, v, n => e.ifUnlocked v n
  | .t, v, n => e.gated v n
  | .wdga, v, n => e.wdgaAfter v n
  | .w, v, n => e.gated v n
  | .wdgtb, v, n => e.gated v n
  | .ewi, v, n => e.ewiAfter v n
  | .clkgate, v, _ => v
  | .dbgfrz, v, _ => v
  | .irqmask, v, _ => v

/-- The write protection after the key `k` (60_exceptions.md R102): the unlock key opens it and the refresh key closes
it; the start key opens nothing, and may close it (70_reset_and_hazards.md R117); the effect of any other key is not
stated. Log entry 10. -/
def Env.lockAfterKey (e : Env) (k : BitVec 16) (n : Nat) : Bool :=
  if k = keyUnlock then true
  else if k = keyFeed then false
  else if k = keyStart then e.unlocked && Config.draw 1 n == 1#1
  else Config.draw 1 n == 1#1

/-- Whether the independent watchdog counts after the key `k`: the start key starts it, the unlock and refresh keys leave
it, the effect of any other key is not stated (log entry 10); nothing stops it but a reset (41_iwdg.md R76). -/
def Env.countAfterKey (e : Env) (k : BitVec 16) (n : Nat) : Bool :=
  if k = keyStart then true
  else if k = keyUnlock ∨ k = keyFeed then e.counting
  else e.counting || Config.draw 1 (n + 1) == 1#1

/-- The write protection after a write to any field. -/
def Env.lockAfter (e : Env) : (fa : Field) → BitVec fa.width → Nat → Bool
  | .key, v, n => e.lockAfterKey v n
  | .pr, _, _ => e.unlocked
  | .rl, _, _ => e.unlocked
  | .t, _, _ => e.unlocked
  | .wdga, _, _ => e.unlocked
  | .w, _, _ => e.unlocked
  | .wdgtb, _, _ => e.unlocked
  | .ewi, _, _ => e.unlocked
  | .clkgate, _, _ => e.unlocked
  | .dbgfrz, _, _ => e.unlocked
  | .irqmask, _, _ => e.unlocked

/-- Whether the independent watchdog counts after a write to any field. -/
def Env.countAfter (e : Env) : (fa : Field) → BitVec fa.width → Nat → Bool
  | .key, v, n => e.countAfterKey v n
  | .pr, _, _ => e.counting
  | .rl, _, _ => e.counting
  | .t, _, _ => e.counting
  | .wdga, _, _ => e.counting
  | .w, _, _ => e.counting
  | .wdgtb, _, _ => e.counting
  | .ewi, _, _ => e.counting
  | .clkgate, _, _ => e.counting
  | .dbgfrz, _, _ => e.counting
  | .irqmask, _, _ => e.counting

/-- What the register interface and the timers behind it make of a write, whoever writes, when nothing falls between the
read and the write back of its read-modify-write (20_memory.md R31, R41; `Env.writeBack` when something does). -/
def Env.write (e : Env) (fa : Field) (v : BitVec fa.width) (n : Nat) : Env :=
  { e with
    fields := e.fields.set fa (e.stored fa v n)
    unlocked := e.lockAfter fa v n
    counting := e.countAfter fa v n }

/-- How many free values one write may draw. -/
def writeDraws : Nat := 2

/-- Several writes, one after the other (`Env.write`), the free values of the first from the `n`-th on. -/
def Env.writes (e : Env) : List FieldWrite → Nat → Env
  | [], _ => e
  | x :: xs, n => (e.write x.field x.value n).writes xs (n + writeDraws)

/-- What the field `fb` holds once the register of `fa` has been written back with the fields as they were read, `old`:
a field of another register what it holds, and so a field that still holds what was read; a field that another writer has
changed since takes what was read, as it takes any written value (`Env.stored`), so that the other writer's value is
lost (20_memory.md R31, R37; log entry 25). -/
def Env.restored (e : Env) (old : Fields) (fa fb : Field) (n : Nat) : BitVec fb.width :=
  if fb.register = fa.register ∧ e.fields.get fb ≠ old.get fb then e.stored fb (old.get fb) n else e.fields.get fb

/-- `Env.restored` of every field, each with a free value of its own. -/
def Env.restore (e : Env) (old : Fields) (fa : Field) (n : Nat) : Fields :=
  { key := e.restored old fa .key n
    pr := e.restored old fa .pr (n + 1)
    rl := e.restored old fa .rl (n + 2)
    t := e.restored old fa .t (n + 3)
    wdga := e.restored old fa .wdga (n + 4)
    w := e.restored old fa .w (n + 5)
    wdgtb := e.restored old fa .wdgtb (n + 6)
    ewi := e.restored old fa .ewi (n + 7)
    clkgate := e.restored old fa .clkgate (n + 8)
    dbgfrz := e.restored old fa .dbgfrz (n + 9)
    irqmask := e.restored old fa .irqmask (n + 10) }

/-- The second half of the read-modify-write of `MemWrite(fa, n, v)` (20_memory.md R31): the register of `fa` is written
with `v` in `fa` and its other fields as they were read, `old`, which another writer may have changed since (R37). Where
nothing has changed since it is `Env.write`. -/
def Env.writeBack (e : Env) (old : Fields) (fa : Field) (v : BitVec fa.width) (n : Nat) : Env :=
  { e.write fa v n with fields := (e.restore old fa (n + writeDraws)).set fa (e.stored fa v n) }

/-- How many free values one write back may draw: those of the write and one for each field. -/
def writeBackDraws : Nat := writeDraws + 11

/-- What a field holds after the environment itself has set it to `v`: `v`, but a set `wdga` cannot be undone
(20_memory.md R41, 10_state.md R23; only a reset clears it). -/
def Env.drifted (e : Env) : (fa : Field) → BitVec fa.width → BitVec fa.width
  | .wdga, v => e.fields.wdga ||| v
  | .key, v => v
  | .pr, v => v
  | .rl, v => v
  | .t, v => v
  | .w, v => v
  | .wdgtb, v => v
  | .ewi, v => v
  | .clkgate, v => v
  | .dbgfrz, v => v
  | .irqmask, v => v

/-- A change of one field that the environment makes on its own, for example a counter that runs down. -/
def Env.drift (e : Env) (fa : Field) (v : BitVec fa.width) : Env := { e with fields := e.fields.set fa (e.drifted fa v) }

/-- A transaction joins the trace (20_memory.md R34, R35). -/
def State.emit (s : State) (x : Transaction) : State := { s with trace := s.trace ++ [x] }

/-- `FQ <- ClkQuery(dom)` (20_memory.md R30): it has no effect on the environment. -/
def State.clkQuery (s : State) (dom : Domain) : State :=
  { s.emit (.clkQuery dom (s.env.freq dom)) with fq := s.env.freq dom }

/-- The answer to a read is the environment's (20_memory.md R32). -/
def State.fieldValue (s : State) (fa : Field) : BitVec fa.width := s.env.fields.get fa

/-- The transaction `MemRead(fa, n)`, which has no side effect (20_memory.md R32); its answer is `fieldValue`. -/
def State.memRead (s : State) (fa : Field) : State := s.emit (.memRead fa (s.fieldValue fa))

/-- The transaction `MemWrite(fa, n, v)` (20_memory.md R31), with nothing inside its read-modify-write; another writer's
writes inside it are `State.interfered`. -/
def State.memWrite (s : State) (fa : Field) (v : BitVec fa.width) : State :=
  { s.emit (.memWrite fa v) with
    env := s.env.write fa v s.draws
    draws := s.draws + writeDraws }

/-- The register write of the step that has led from `s` to `t`, if it performed one. -/
def State.wroteSince (t s : State) : Option FieldWrite :=
  match t.trace.drop s.trace.length with
  | [.memWrite fa v] => some ⟨fa, v⟩
  | _ => none

/-- The step from `s` to `t` with another writer's writes `ws` inside it. A register write read the register in `s`; then
come the other writer's writes; then the register is written back (20_memory.md R37: the read-modify-write is not atomic).
In any other step there is nothing to fall into, and they come after it. Only the environment differs from `t`, and the
count of the free values. Log entry 25. -/
def State.interfered (t s : State) (ws : List FieldWrite) : State :=
  let n := t.draws + ws.length * writeDraws
  match t.wroteSince s with
  | some x =>
    { t with
      env := (s.env.writes ws t.draws).writeBack s.env.fields x.field x.value n
      draws := n + writeBackDraws }
  | none => { t with env := t.env.writes ws t.draws, draws := n }

/-- `SEQ <- SEQ + 1` (10_state.md R13). -/
def State.advance (s : State) : State := { s with seq := s.seq + 1#3 }

/-- The command's last transaction has been performed: `BUSY <- 0`, `SEQ <- 0` (10_state.md R13). -/
def State.complete (s : State) : State := { s with busy := false, seq := 0#3 }

/-- `(q[0], q[1]) <- (p, r)` (10_state.md R11). -/
def State.setPair (s : State) (x : BitVec 3 × BitVec 12) : State := { s with qp := x.1, qr := x.2 }

/-- `q[2] <- v`, or `q[2] <- draw_64()` where there is no value (10_state.md R12, 40_quantizer.md R68, R69). -/
def State.setRes (s : State) : Option Result → State
  | some v => { s with res := v }
  | none => { s with res := Config.draw 64 s.draws, draws := s.draws + 1 }

/-- `RB <- v`, the prescaler index read back (10_state.md R14). -/
def State.setIndex (s : State) (v : BitVec 3) : State := { s with rb := v }

/-- `RLC <- v`, the cached reload (10_state.md R19). -/
def State.setReload (s : State) (v : BitVec 6) : State := { s with rlc := v }

/-- `IWDG_ST <- 1` (10_state.md R15). -/
def State.runIwdg (s : State) : State := { s with iwdgSt := .running }

/-- `WWDG_ST <- 1` (10_state.md R16). -/
def State.runWwdg (s : State) : State := { s with wwdgSt := .running }

/-- `WCK <- 1` (10_state.md R17). -/
def State.construct (s : State) : State := { s with wck := true }

/-- Fault entry, in one step (60_exceptions.md R94). It emits no transaction, undoes nothing and writes nothing else.
There is no return from it but reset (R96). -/
def State.raise (s : State) (code : FaultCode) : State :=
  { s with fault := code, fcmd := s.cmdr, halt := true, busy := false, seq := 0#3 }

/-- The reset input (70_reset_and_hazards.md R109, R110): every piece of WDGQ's state takes its reset value, the command
in progress is abandoned, what it emitted stays emitted, the host's words go with the host's processor (log entry 15),
and the environment returns to its own, unstated, reset state (41_iwdg.md R75). -/
def State.resetNow (s : State) : State :=
  { State.drawn s.cfg s.draws with earlier := s.earlier ++ s.trace, sched := s.sched }

end Sys2Proof.Machine
end

