-- ==== Sys2Proof/Machine/Operands.lean ====
section
/-! DEFINITION. The operand forms, the two instantiations of the quantizer, and the arithmetic of 40_quantizer.md:
64-bit unsigned, floor division. -/

namespace Sys2Proof.Machine

/-- Form D: `zext_64(ARG)`, no scaling, no sign (30_encoding.md R45). -/
def durationOperand (d : Duration) : Result := d.setWidth 64

/-- Form B: the flag as the one-bit value written to a field (30_encoding.md R45). -/
def flagOperand (b : Bool) : BitVec 1 := BitVec.ofBool b

/-- The constants of one instantiation of the quantizer (40_quantizer.md R56). -/
structure Instantiation where
  /-- The clock domain the controller's commands query (20_memory.md R30). -/
  dom : Domain
  /-- `U`, how many duration units make a second. -/
  unit : Result
  /-- `DIV(0)`; each prescaler step doubles it. -/
  div0 : Result
  /-- `PMAX`. -/
  pmax : BitVec 3
  /-- `RMAX`. -/
  rmax : BitVec 12
  deriving DecidableEq, Repr

/-- The independent watchdog's instantiation (00_scope.md R5, 40_quantizer.md R56). -/
def instI : Instantiation := { dom := .lsi, unit := 1000#64, div0 := 4#64, pmax := 6#3, rmax := 0xFFF#12 }

/-- The window watchdog's instantiation; `PMAX_W` is a parameter (00_scope.md R5, R6, 40_quantizer.md R56). -/
def instW (c : Config) : Instantiation :=
  { dom := .pclk, unit := 1000000#64, div0 := 4096#64, pmax := c.pmaxW, rmax := 0x3F#12 }

/-- `DIV(p) = DIV(0) * 2^p` (40_quantizer.md R56). -/
def Instantiation.div (q : Instantiation) (p : BitVec 3) : Result := q.div0 <<< p.toNat

/-- `SCALE` (00_scope.md R6). -/
def scale : Result := 1000000#64

/-- Step 2 of `quantize`: while `n > RMAX` and `p < PMAX`, increment `p` and halve `n`. The first argument bounds the
iterations; `PMAX` of them are enough (40_quantizer.md R57). -/
def halve (q : Instantiation) : Nat → BitVec 3 → Result → BitVec 3 × Result
  | 0, p, n => (p, n)
  | k + 1, p, n => if q.rmax.setWidth 64 < n ∧ p < q.pmax then halve q k (p + 1#3) (n >>> 1) else (p, n)

/-- Step 1 of `quantize`: `N0`, one multiplication, then one floor division (40_quantizer.md R57). -/
def cycles (q : Instantiation) (d : Duration) (f : Freq) : Result :=
  durationOperand d * f.setWidth 64 / (q.unit * q.div0)

/-- Step 3 of `quantize`: saturate (40_quantizer.md R57). -/
def saturate (q : Instantiation) (x : BitVec 3 × Result) : BitVec 3 × BitVec 12 :=
  (x.1, if q.rmax.setWidth 64 < x.2 then q.rmax else x.2.setWidth 12)

/-- `quantize(d, f, U, DIV0, PMAX, RMAX) -> (p, r)` (40_quantizer.md R57). -/
def quantize (q : Instantiation) (d : Duration) (f : Freq) : BitVec 3 × BitVec 12 :=
  saturate q (halve q q.pmax.toNat 0#3 (cycles q d f))

/-- `us_per_cycle(f, p, DIV)`, for `f > 0` and `p` inside the table (40_quantizer.md R60). -/
def usPerCycle (q : Instantiation) (f : Freq) (p : BitVec 3) : Result := q.div p * scale / f.setWidth 64

/-- `decode_us(p, r, f, DIV)`, for `f > 0` and `p` inside the table (40_quantizer.md R60). -/
def decodeUs (q : Instantiation) (p : BitVec 3) (r : BitVec 12) (f : Freq) : Result := r.setWidth 64 * usPerCycle q f p

/-- The decode as the commands run it: no value at a zero frequency (40_quantizer.md R68) or at an index outside the
table (R69). -/
def interval (q : Instantiation) (p : BitVec 3) (r : BitVec 12) (f : Freq) : Option Result :=
  if f = 0#32 ∨ q.pmax < p then none else some (decodeUs q p r f)

/-- Microseconds to milliseconds, floor (41_iwdg.md R73). -/
def toMs (v : Option Result) : Option Result := v.map (· / 1000#64)

/-- The value written to `t`: `(zext_7(RLC) | T_OR)[6:0]` (42_wwdg.md R85). -/
def counterValue (c : Config) (rlc : BitVec 6) : BitVec 7 := rlc.setWidth 7 ||| c.tOr

/-- The value written to `w`: `(zext_7(r) | W_OR)[6:0]` (42_wwdg.md R85). -/
def windowValue (c : Config) (r : BitVec 12) : BitVec 7 := r.setWidth 7 ||| c.wOr

/-- The pair an instantiation finds for a request at the frequency of this command's own query (20_memory.md R43). -/
def State.pairFor (s : State) (q : Instantiation) (d : Duration) : BitVec 3 × BitVec 12 := quantize q d s.fq

/-- Transaction [0] of the five commands that quantize: the query, then `(q[0], q[1]) <- quantize(ARG, FQ, ...)`
(40_quantizer.md R63, R64, 41_iwdg.md R71, 42_wwdg.md R80, R81). -/
def State.queryAndQuantize (s : State) (q : Instantiation) (d : Duration) : State :=
  let s1 := s.clkQuery q.dom
  s1.setPair (s1.pairFor q d)

/-- `DEC.I` and `DEC.W`: the query, then `q[2]` from the pair in `q[0]`, `q[1]` (40_quantizer.md R65, R66). -/
def State.queryAndDecode (s : State) (q : Instantiation) : State :=
  let s1 := s.clkQuery q.dom
  s1.setRes (interval q s1.qp s1.qr s1.fq)

end Sys2Proof.Machine
end

