-- ==== Sys2Proof/Machine/Iwdg.lean ====
section
/-! DEFINITION. The independent watchdog controller family: IW.START, IW.FEED, IW.IVAL, IW.DBG (41_iwdg.md R71 to R74).
Each performs the transaction numbered SEQ. No command is guarded by IWDG_ST (R70). -/

namespace Sys2Proof.Machine

/-- `IW.START d` (41_iwdg.md R71): six transactions. The pair `(p, r)` of transactions [2] and [3] is that of the
command's operand and latched frequency (log entry 3). -/
def execIwStart (d : Duration) (s : State) : Host.Outcome State Fault Refusal :=
  match s.seq.toNat with
  | 0 => .next (s.queryAndQuantize instI d).advance
  | 1 => .next (s.memWrite .key keyUnlock).advance
  | 2 => .next (s.memWrite .pr (s.pairFor instI d).1).advance
  | 3 => .next (s.memWrite .rl (s.pairFor instI d).2).advance
  | 4 => .next (s.memWrite .key keyFeed).advance
  | 5 => .next (s.memWrite .key keyStart).runIwdg.complete
  | _ => .fault .seqOutOfRange

/-- `IW.FEED` (41_iwdg.md R72). -/
def execIwFeed (s : State) : Host.Outcome State Fault Refusal :=
  match s.seq.toNat with
  | 0 => .next (s.memWrite .key keyFeed).complete
  | _ => .fault .seqOutOfRange

/-- `IW.IVAL` (41_iwdg.md R73): both fields are read back, the index into `RB`, the reload used at once. -/
def execIwIval (s : State) : Host.Outcome State Fault Refusal :=
  match s.seq.toNat with
  | 0 => .next (s.clkQuery .lsi).advance
  | 1 => .next ((s.memRead .pr).setIndex (s.fieldValue .pr)).advance
  | 2 => .next ((s.memRead .rl).setRes (toMs (interval instI s.rb (s.fieldValue .rl) s.fq))).complete
  | _ => .fault .seqOutOfRange

/-- `IW.DBG stop` (41_iwdg.md R74). -/
def execIwDbg (stop : Bool) (s : State) : Host.Outcome State Fault Refusal :=
  match s.seq.toNat with
  | 0 => .next (s.memWrite .dbgfrz (flagOperand stop)).complete
  | _ => .fault .seqOutOfRange

end Sys2Proof.Machine
end

