-- ==== Sys2Proof/Machine/Quantizer.lean ====
section
/-! DEFINITION. The quantizer family: QNT.I, QNT.W, DEC.I, DEC.W (40_quantizer.md R63 to R66). Each performs the
transaction numbered SEQ; each has one transaction. -/

namespace Sys2Proof.Machine

/-- `QNT.I d` (40_quantizer.md R63). -/
def execQntI (d : Duration) (s : State) : Host.Outcome State Fault Refusal :=
  match s.seq.toNat with
  | 0 => .next (s.queryAndQuantize instI d).complete
  | _ => .fault .seqOutOfRange

/-- `QNT.W d` (40_quantizer.md R64): `WCK` is not required, and a zero count is no fault here. -/
def execQntW (d : Duration) (s : State) : Host.Outcome State Fault Refusal :=
  match s.seq.toNat with
  | 0 => .next (s.queryAndQuantize (instW s.cfg) d).complete
  | _ => .fault .seqOutOfRange

/-- `DEC.I` (40_quantizer.md R65): the result is in microseconds. -/
def execDecI (s : State) : Host.Outcome State Fault Refusal :=
  match s.seq.toNat with
  | 0 => .next (s.queryAndDecode instI).complete
  | _ => .fault .seqOutOfRange

/-- `DEC.W` (40_quantizer.md R66): all 12 bits of `QR` are used. -/
def execDecW (s : State) : Host.Outcome State Fault Refusal :=
  match s.seq.toNat with
  | 0 => .next (s.queryAndDecode (instW s.cfg)).complete
  | _ => .fault .seqOutOfRange

end Sys2Proof.Machine
end

