-- ==== Sys2Proof/Machine/Flags.lean ====
section
/-! DEFINITION. The state bits and the status port (10_state.md R15 to R21). The block has no condition codes: every
command's rule says "Flags: none". -/

namespace Sys2Proof.Machine

/-- 0 = `Unstarted`, 1 = `Running` (10_state.md R15, R16). -/
def Controller.bit : Controller → BitVec 1
  | .unstarted => 0#1
  | .running => 1#1

/-- The fault codes (60_exceptions.md R90). -/
def FaultCode.code : FaultCode → BitVec 2
  | .none => 0#2
  | .wzero => 1#2
  | .illcmd => 2#2
  | .seqerr => 3#2

/-- WDGQ is ready exactly when `BUSY = 0` and `HALT = 0` (30_encoding.md R54). -/
def State.ready (s : State) : Bool := !s.busy && !s.halt

/-- Status register 0, `STAT` (10_state.md R20). -/
def State.stat (s : State) : BitVec 8 :=
  s.seq ++ BitVec.ofBool s.wck ++ s.wwdgSt.bit ++ s.iwdgSt.bit ++ BitVec.ofBool s.halt ++ BitVec.ofBool s.busy

/-- Status register 4, `CAP`, hardwired from the parameters (10_state.md R21). -/
def State.cap (s : State) : BitVec 2 := BitVec.ofBool s.cfg.caps.irq ++ BitVec.ofBool s.cfg.caps.dbg

/-- What the host reads at status register `n` (10_state.md R20): the current value, unused bits 0, with no side effect,
at any time. -/
def statusRead (s : State) (n : Fin 8) : Result :=
  match n.val with
  | 0 => s.stat.setWidth 64
  | 1 => s.fault.code.setWidth 64
  | 2 => s.fcmd.setWidth 64
  | 3 => s.rlc.setWidth 64
  | 4 => s.cap.setWidth 64
  | 5 => s.qp.setWidth 64
  | 6 => s.qr.setWidth 64
  | _ => s.res

/-- The state check before the first transaction of every window watchdog command but `WW.NEW`: with `WCK = 0` it
raises `SEQERR` (60_exceptions.md R93), otherwise the command goes on. -/
def State.ifConstructed (s : State) (go : State) : State := if s.wck then go else s.raise .seqerr

end Sys2Proof.Machine
end

