-- ==== Sys2Proof/Machine/Wwdg.lean ====
section
/-! DEFINITION. The window watchdog controller family: WW.NEW, WW.SETWIN, WW.START, WW.FEED, WW.IVAL, WW.EWI
(42_wwdg.md R79 to R84). Each performs the transaction numbered SEQ. No command is guarded by WWDG_ST (R78), and no
feed is guarded by time (R86). -/

namespace Sys2Proof.Machine

/-- `WW.NEW` (42_wwdg.md R79). -/
def execWwNew (s : State) : Host.Outcome State Fault Refusal :=
  match s.seq.toNat with
  | 0 => .next (s.memWrite .clkgate 1#1).construct.complete
  | _ => .fault .seqOutOfRange

/-- The window assertion of `WW.SETWIN`, after `QP`, `QR` have been written: a zero count raises `WZERO`
(42_wwdg.md R80, 60_exceptions.md R91). -/
def State.ifCounted (s : State) : State := if s.qr = 0#12 then s.raise .wzero else s.advance

/-- `WW.SETWIN d` (42_wwdg.md R80): it does not write `RLC` (R87). -/
def execWwSetwin (d : Duration) (s : State) : Host.Outcome State Fault Refusal :=
  match s.seq.toNat with
  | 0 => .next (s.ifConstructed (s.queryAndQuantize (instW s.cfg) d).ifCounted)
  | 1 => .next (s.memWrite .wdgtb (s.pairFor (instW s.cfg) d).1).advance
  | 2 => .next (s.memWrite .w (windowValue s.cfg (s.pairFor (instW s.cfg) d).2)).complete
  | _ => .fault .seqOutOfRange

/-- `WW.START d` (42_wwdg.md R81): the count is cached after transaction [1], and a zero count is no fault. -/
def execWwStart (d : Duration) (s : State) : Host.Outcome State Fault Refusal :=
  match s.seq.toNat with
  | 0 => .next (s.ifConstructed (s.queryAndQuantize (instW s.cfg) d).advance)
  | 1 =>
    let x := s.pairFor (instW s.cfg) d
    .next ((s.memWrite .wdgtb x.1).setReload (x.2.setWidth 6)).advance
  | 2 => .next (s.memWrite .t (counterValue s.cfg s.rlc)).advance
  | 3 => .next (s.memWrite .wdga 1#1).runWwdg.complete
  | _ => .fault .seqOutOfRange

/-- `WW.FEED` (42_wwdg.md R82): no query, no quantization, no guard. -/
def execWwFeed (s : State) : Host.Outcome State Fault Refusal :=
  match s.seq.toNat with
  | 0 => .next (s.ifConstructed (s.memWrite .t (counterValue s.cfg s.rlc)).complete)
  | _ => .fault .seqOutOfRange

/-- `WW.IVAL` (42_wwdg.md R83): the index is read back, the reload is the cached one. -/
def execWwIval (s : State) : Host.Outcome State Fault Refusal :=
  match s.seq.toNat with
  | 0 => .next (s.ifConstructed (s.clkQuery .pclk).advance)
  | 1 =>
    let p := s.fieldValue .wdgtb
    .next (((s.memRead .wdgtb).setIndex p).setRes (interval (instW s.cfg) p (s.rlc.setWidth 12) s.fq)).complete
  | _ => .fault .seqOutOfRange

/-- `WW.EWI enabled` (42_wwdg.md R84): the field first, then the interrupt mask. -/
def execWwEwi (enabled : Bool) (s : State) : Host.Outcome State Fault Refusal :=
  match s.seq.toNat with
  | 0 => .next (s.ifConstructed (s.memWrite .ewi (flagOperand enabled)).advance)
  | 1 => .next (s.memWrite .irqmask (flagOperand enabled)).complete
  | _ => .fault .seqOutOfRange

end Sys2Proof.Machine
end

