-- ==== Sys2Proof/Machine/Dispatch.lean ====
section
/-! DEFINITION. One arm per command: the transaction numbered SEQ of the command in progress (10_state.md R13). -/

namespace Sys2Proof.Machine

def exec (i : Instr) (s : State) : Host.Outcome State Fault Refusal :=
  match i with
  | .qntI d => Sys2Proof.Machine.execQntI d s
  | .qntW d => Sys2Proof.Machine.execQntW d s
  | .decI => Sys2Proof.Machine.execDecI s
  | .decW => Sys2Proof.Machine.execDecW s
  | .iwStart d => Sys2Proof.Machine.execIwStart d s
  | .iwFeed => Sys2Proof.Machine.execIwFeed s
  | .iwIval => Sys2Proof.Machine.execIwIval s
  | .iwDbg stop => Sys2Proof.Machine.execIwDbg stop s
  | .wwNew => Sys2Proof.Machine.execWwNew s
  | .wwSetwin d => Sys2Proof.Machine.execWwSetwin d s
  | .wwStart d => Sys2Proof.Machine.execWwStart d s
  | .wwFeed => Sys2Proof.Machine.execWwFeed s
  | .wwIval => Sys2Proof.Machine.execWwIval s
  | .wwEwi enabled => Sys2Proof.Machine.execWwEwi enabled s

end Sys2Proof.Machine
end

