-- ==== Sys2Proof/Machine/Port.lean ====
section
/-! DEFINITION. The command port, WDGQ's own step, and what the other agents' events do. Step.lean only calls these. -/

namespace Sys2Proof.Machine

/-- Acceptance of a presented word: `CMDR <- CMD`, `BUSY <- 1`, `SEQ <- 0` (30_encoding.md R55). -/
def State.accept (s : State) (w : Command) (rest : List Command) : State :=
  { s with cmdr := w, busy := true, seq := 0#3, pending := rest }

/-- With `HALT = 1` a presented word is ignored (30_encoding.md R55, 60_exceptions.md R96; log entry 15). -/
def State.ignoreWord (s : State) : State := { s with pending := s.pending.tail }

/-- One step of WDGQ: halted, it ignores what is presented; idle, it accepts the oldest presented word, if there is one;
busy, it decodes `CMDR` and raises `ILLCMD` or performs the transaction numbered `SEQ` (30_encoding.md R54, R55,
60_exceptions.md R92, R95; log entry 1). -/
def wdgqStep (s : State) : Host.Outcome State Fault Refusal :=
  if s.halt then .next s.ignoreWord
  else if s.busy then
    match decode s.cfg.caps s.cmdr with
    | .ok i => exec i s
    | .error _ => .next (s.raise .illcmd)
  else
    match s.pending with
    | [] => .next s
    | w :: rest => .next (s.accept w rest)

/-- What an event of another agent does (`wdgq` and `within` are WDGQ's own moves, which the step makes). -/
def State.happen (s : State) : Event → State
  | .wdgq => s
  | .present w => { s with pending := s.pending ++ [w] }
  | .reset => s.resetNow
  | .clock dom f => { s with env := s.env.setFreq dom f }
  | .drift fa v => { s with env := s.env.drift fa v }
  | .intrude fa v => { s with env := s.env.write fa v s.draws, draws := s.draws + writeDraws }
  | .within _ => s

/-- One step of WDGQ with another writer's writes inside it (`State.interfered`). -/
def wdgqStepWithin (ws : List FieldWrite) (s : State) : Host.Outcome State Fault Refusal :=
  match wdgqStep s with
  | .next t => .next (t.interfered s ws)
  | .fault r => .fault r
  | .refused r => .refused r

/-- One step of the machine: the next event of the schedule, or a step of WDGQ when it is WDGQ's turn or nothing is
scheduled (00_scope.md R7; log entry 14). -/
def nextMove (s : State) : Host.Outcome State Fault Refusal :=
  match s.sched with
  | [] => wdgqStep s
  | .wdgq :: rest => wdgqStep { s with sched := rest }
  | .within ws :: rest => wdgqStepWithin ws { s with sched := rest }
  | e :: rest => .next ({ s with sched := rest }.happen e)

/-- The machine with the word `w` accepted and no transaction of it performed yet, nothing scheduled before it, and no
fault recorded: its very next step runs `w` (log entry 17). -/
def State.loaded (s : State) (w : Command) : State :=
  { s with cmdr := w, busy := true, seq := 0#3, halt := false, fault := .none, sched := [] }

end Sys2Proof.Machine
end

