-- ==== Sys2Proof/Machine/Step.lean ====
section
/-! DEFINITION. The step of the machine, and where the step takes its next instruction from. -/

namespace Sys2Proof.Machine

/-- One step (`nextMove`). -/
def step (s : State) : Host.Outcome State Fault Refusal := nextMove s

/-- `s` with the instruction of `nbits` bits `w` in the command latch `CMDR`, accepted, where the step takes its next
instruction from. WDGQ fetches from no memory (20_memory.md R38). -/
def State.withFetchWord (s : State) (nbits w : Nat) : State := s.loaded (BitVec.ofNat 40 (w % 2 ^ nbits))

end Sys2Proof.Machine
end

