-- ==== Sys2Proof/Safety.lean ====
section
/-! DEFINITION. What counts as a good state and a good run (70_reset_and_hazards.md R128), the discipline of the trace
(41_iwdg.md R75), and the invariant of the machine. Claims are written in these terms. -/

namespace Sys2Proof.Machine

/-- How many transactions a command's rule lists (40_quantizer.md, 41_iwdg.md, 42_wwdg.md). -/
def transactions : Instr → Nat
  | .qntI _ => 1
  | .qntW _ => 1
  | .decI => 1
  | .decW => 1
  | .iwStart _ => 6
  | .iwFeed => 1
  | .iwIval => 3
  | .iwDbg _ => 1
  | .wwNew => 1
  | .wwSetwin _ => 3
  | .wwStart _ => 4
  | .wwFeed => 1
  | .wwIval => 2
  | .wwEwi _ => 2

/-- The transactions a command's rule lists, in order, with the values they carry when emitted in the state `s`: a query
and a read answer with what the environment holds, a pair is that of the latched frequency (log entries 3 and 9). -/
def listed (i : Instr) (s : State) : List Transaction :=
  match i with
  | .qntI _ => [.clkQuery .lsi s.env.lsi]
  | .qntW _ => [.clkQuery .pclk s.env.pclk]
  | .decI => [.clkQuery .lsi s.env.lsi]
  | .decW => [.clkQuery .pclk s.env.pclk]
  | .iwStart d =>
    [.clkQuery .lsi s.env.lsi, .memWrite .key 0x5555#16, .memWrite .pr (quantize instI d s.fq).1,
      .memWrite .rl (quantize instI d s.fq).2, .memWrite .key 0xAAAA#16, .memWrite .key 0xCCCC#16]
  | .iwFeed => [.memWrite .key 0xAAAA#16]
  | .iwIval => [.clkQuery .lsi s.env.lsi, .memRead .pr s.env.fields.pr, .memRead .rl s.env.fields.rl]
  | .iwDbg stop => [.memWrite .dbgfrz (BitVec.ofBool stop)]
  | .wwNew => [.memWrite .clkgate 1#1]
  | .wwSetwin d =>
    [.clkQuery .pclk s.env.pclk, .memWrite .wdgtb (quantize (instW s.cfg) d s.fq).1,
      .memWrite .w ((quantize (instW s.cfg) d s.fq).2.setWidth 7 ||| s.cfg.wOr)]
  | .wwStart d =>
    [.clkQuery .pclk s.env.pclk, .memWrite .wdgtb (quantize (instW s.cfg) d s.fq).1,
      .memWrite .t (s.rlc.setWidth 7 ||| s.cfg.tOr), .memWrite .wdga 1#1]
  | .wwFeed => [.memWrite .t (s.rlc.setWidth 7 ||| s.cfg.tOr)]
  | .wwIval => [.clkQuery .pclk s.env.pclk, .memRead .wdgtb s.env.fields.wdgtb]
  | .wwEwi enabled => [.memWrite .ewi (BitVec.ofBool enabled), .memWrite .irqmask (BitVec.ofBool enabled)]

/-- The transaction of the command `i` that `SEQ` names in the state `s` (10_state.md R13). -/
def named (i : Instr) (s : State) : Option Transaction := (listed i s)[s.seq.toNat]?

/-- The five commands that run the quantizer (10_state.md R11). -/
def quantizes : Instr → Bool
  | .qntI _ => true
  | .qntW _ => true
  | .iwStart _ => true
  | .wwSetwin _ => true
  | .wwStart _ => true
  | .decI => false
  | .decW => false
  | .iwFeed => false
  | .iwIval => false
  | .iwDbg _ => false
  | .wwNew => false
  | .wwFeed => false
  | .wwIval => false
  | .wwEwi _ => false

/-- The four commands that write `RES` (10_state.md R12). -/
def decodes : Instr → Bool
  | .decI => true
  | .decW => true
  | .iwIval => true
  | .wwIval => true
  | .qntI _ => false
  | .qntW _ => false
  | .iwStart _ => false
  | .wwSetwin _ => false
  | .wwStart _ => false
  | .iwFeed => false
  | .iwDbg _ => false
  | .wwNew => false
  | .wwFeed => false
  | .wwEwi _ => false

/-- The clock domain of a command that needs timing, the nine of 20_memory.md R43; none for the other five. -/
def queriedDomain : Instr → Option Domain
  | .qntI _ => some .lsi
  | .decI => some .lsi
  | .iwStart _ => some .lsi
  | .iwIval => some .lsi
  | .qntW _ => some .pclk
  | .decW => some .pclk
  | .wwSetwin _ => some .pclk
  | .wwStart _ => some .pclk
  | .wwIval => some .pclk
  | .iwFeed => none
  | .iwDbg _ => none
  | .wwNew => none
  | .wwFeed => none
  | .wwEwi _ => none

/-- The five commands that fault with `SEQERR` while `WCK = 0` (60_exceptions.md R93). -/
def needsWck : Instr → Bool
  | .wwSetwin _ => true
  | .wwStart _ => true
  | .wwFeed => true
  | .wwIval => true
  | .wwEwi _ => true
  | .qntI _ => false
  | .qntW _ => false
  | .decI => false
  | .decW => false
  | .iwStart _ => false
  | .iwFeed => false
  | .iwIval => false
  | .iwDbg _ => false
  | .wwNew => false

/-- It is WDGQ's turn: nothing is scheduled, or WDGQ is, be it with another writer's writes inside its step. -/
def wdgqTurn (s : State) : Bool :=
  match s.sched with
  | [] => true
  | .wdgq :: _ => true
  | .within _ :: _ => true
  | _ :: _ => false

/-- The next step is a reset (70_reset_and_hazards.md R109). -/
def resetTurn (s : State) : Bool :=
  match s.sched with
  | .reset :: _ => true
  | _ => false

/-- The command whose transaction the next step performs, if it performs one. -/
def running (s : State) : Option Instr :=
  if wdgqTurn s && !s.halt && s.busy then
    match decode s.cfg.caps s.cmdr with
    | .ok i => some i
    | .error _ => none
  else none

/-- `k` steps, ending early at the first stop. -/
def steps : Nat → State → Host.Outcome State Fault Refusal
  | 0, s => .next s
  | k + 1, s =>
    match step s with
    | .next t => steps k t
    | .fault r => .fault r
    | .refused r => .refused r

/-- A run ends well here: the last command has completed and no fault is recorded (70_reset_and_hazards.md R128). -/
def EndsWell (s : State) : Prop := s.busy = false ∧ s.halt = false ∧ s.pending = []

/-- Where a trace stands with the unlock scope (20_memory.md R37). -/
inductive Scope where
  | closed
  | opened
  deriving DecidableEq, Repr

/-- A write to the key field in a scope: the unlock key opens a closed scope, the refresh key closes it, the start key is
written outside it, and no other key is written (10_state.md R22, 41_iwdg.md R75). -/
def scopeKey (k : BitVec 16) : Scope → Option Scope
  | .closed =>
    if k = keyUnlock then some .opened else if k = keyFeed then some .closed else if k = keyStart then some .closed else none
  | .opened => if k = keyFeed then some .closed else none

/-- A write to `pr` or `rl` is allowed in an open scope alone (41_iwdg.md R75). -/
def scopeInside : Scope → Option Scope
  | .opened => some .opened
  | .closed => none

/-- One transaction's part in the discipline of the unlock scope; no scope where it breaks it. -/
def scopeAfter (sc : Scope) : Transaction → Option Scope
  | .clkQuery _ _ => some sc
  | .memRead _ _ => some sc
  | .memWrite .key k => scopeKey k sc
  | .memWrite .pr _ => scopeInside sc
  | .memWrite .rl _ => scopeInside sc
  | .memWrite .t _ => some sc
  | .memWrite .wdga _ => some sc
  | .memWrite .w _ => some sc
  | .memWrite .wdgtb _ => some sc
  | .memWrite .ewi _ => some sc
  | .memWrite .clkgate _ => some sc
  | .memWrite .dbgfrz _ => some sc
  | .memWrite .irqmask _ => some sc

/-- Where a whole trace leaves the unlock scope, from a closed one; none if the discipline was broken on the way. -/
def scopeOf (l : List Transaction) : Option Scope :=
  l.foldl (fun sc x => sc.bind fun c => scopeAfter c x) (some .closed)

/-- Transactions [2] to [4] of `IW.START` lie ahead: the unlock key has been written and the lock key has not
(41_iwdg.md R71). -/
def inScope (s : State) : Bool := s.busy && decide (opOf s.cmdr = 0x10#8 ∧ 2 ≤ s.seq.toNat ∧ s.seq.toNat ≤ 4)

/-- The values WDGQ may write to a field (10_state.md R22, R23, 42_wwdg.md R85). -/
def legalWrite (c : Config) : (fa : Field) → BitVec fa.width → Prop
  | .key, v => v.toNat = 0x5555 ∨ v.toNat = 0xAAAA ∨ v.toNat = 0xCCCC
  | .pr, v => v.toNat ≤ 6
  | .rl, v => v.toNat ≤ 0xFFF
  | .t, v => ∃ r : BitVec 6, v = counterValue c r
  | .wdga, v => v.toNat = 1
  | .w, v => ∃ r : BitVec 6, r ≠ 0#6 ∧ v = windowValue c (r.setWidth 12)
  | .wdgtb, v => v.toNat ≤ c.pmaxW.toNat
  | .ewi, _ => True
  | .clkgate, v => v.toNat = 1
  | .dbgfrz, _ => True
  | .irqmask, _ => True

/-- The transactions WDGQ may emit: it reads `pr`, `rl` and `wdgtb` alone (20_memory.md R32) and writes legal values. -/
def legal (c : Config) : Transaction → Prop
  | .clkQuery _ _ => True
  | .memRead fa _ => fa = .pr ∨ fa = .rl ∨ fa = .wdgtb
  | .memWrite fa v => legalWrite c fa v

/-- What the registers hold while a command that has performed a transaction is in progress: the pair its quantization
found, the cached count once it is cached, and a constructed controller for the commands that need one. -/
def InFlight (s : State) : Instr → Prop
  | .iwStart d => (s.qp, s.qr) = quantize instI d s.fq
  | .wwSetwin d => (s.qp, s.qr) = quantize (instW s.cfg) d s.fq ∧ s.qr ≠ 0#12 ∧ s.wck = true
  | .wwStart d =>
    (s.qp, s.qr) = quantize (instW s.cfg) d s.fq ∧ s.wck = true ∧ (2 ≤ s.seq.toNat → s.rlc = s.qr.setWidth 6)
  | .wwIval => s.wck = true
  | .wwEwi _ => s.wck = true
  | .iwIval => True
  | .qntI _ => True
  | .qntW _ => True
  | .decI => True
  | .decW => True
  | .iwFeed => True
  | .iwDbg _ => True
  | .wwNew => True
  | .wwFeed => True

/-- The invariant of the machine: every step keeps it, and the reset state has it. -/
structure Invariant (s : State) : Prop where
  /-- `HALT = 1` exactly when `FAULT != 0` (10_state.md R18). -/
  halt_fault : s.halt = true ↔ s.fault ≠ .none
  /-- A halted block is idle (60_exceptions.md R94). -/
  halt_idle : s.halt = true → s.busy = false
  /-- Idle: `BUSY = 0`, `SEQ = 0` (10_state.md R13). -/
  idle_seq : s.busy = false → s.seq = 0#3
  /-- A command that has performed a transaction is a legal one, `SEQ` numbers one of its transactions, and the registers
  hold what its rule put there (10_state.md R13). -/
  progress :
    s.busy = true → s.seq ≠ 0#3 →
      ∃ i, decode s.cfg.caps s.cmdr = .ok i ∧ s.seq.toNat < transactions i ∧ InFlight s i
  /-- The trace keeps the unlock scope's discipline, and the scope is open only inside `IW.START` (41_iwdg.md R75). -/
  scope : scopeOf s.trace = some (if inScope s then .opened else .closed)
  /-- Every transaction emitted is one WDGQ may emit (10_state.md R22, R23, 20_memory.md R28). -/
  legal_trace : ∀ x ∈ s.trace, legal s.cfg x

/-- Two environments that answer WDGQ alike now, and will after the same write: they agree on the two clocks, the three
fields WDGQ reads, and what decides whether a write to those three takes. -/
structure AnswersAlike (a b : Env) : Prop where
  lsi : a.lsi = b.lsi
  pclk : a.pclk = b.pclk
  pr : a.fields.pr = b.fields.pr
  rl : a.fields.rl = b.fields.rl
  wdgtb : a.fields.wdgtb = b.fields.wdgtb
  clkgate : a.fields.clkgate = b.fields.clkgate
  unlocked : a.unlocked = b.unlocked

/-- The number of cycles `N0` that step 1 of the quantizer counts, in exact arithmetic (40_quantizer.md R59). -/
def exactCycles (q : Instantiation) (d : Duration) (f : Freq) : Nat := d.toNat * f.toNat / (q.unit.toNat * q.div0.toNat)

/-- `DIV(p)` in exact arithmetic (40_quantizer.md R56). -/
def exactDiv (q : Instantiation) (p : BitVec 3) : Nat := q.div0.toNat * 2 ^ p.toNat

/-- The two instantiations of this hardware (40_quantizer.md R56), the second for every `PMAX_W`. -/
def IsInstantiation (q : Instantiation) : Prop := q = instI ∨ ∃ c, q = instW c

end Sys2Proof.Machine
end

