-- ==== Sys2Proof/Certificates/Slice0/Obligations.lean ====
section
/-! DEFINITION. The statements for the provers. Each docstring names the rules of spec/ it rests on; what is the model's
own choice in it is said there, with its log entry. -/

open Sys2Proof Sys2Proof.Machine

/-! ### Reset -/

/-- 10_state.md R27: what reset leaves. The state bits are zero, `CAP` holds its parameters, and each of the five
registers the rule calls unspecified holds a free value of its width. The model's own here: the parameters of State.reset
(log entry 16, DESIGN CHOICE), that no presented word is left (log entry 15, DESIGN CHOICE), that the trace starts empty
(20_memory.md R34, log entry 18), and the numbering of the free values (log entries 5 and 6). -/
def Obligations.ResetLeavesTheStatedValues : Prop :=
  State.reset = State.drawn Config.default 0 ∧
  ∀ (c : Config) (n : Nat),
    let s := State.drawn c n
    s.busy = false ∧ s.seq = 0#3 ∧ s.halt = false ∧ s.fault = .none ∧
    s.iwdgSt = .unstarted ∧ s.wwdgSt = .unstarted ∧ s.wck = false ∧
    s.cap = BitVec.ofBool c.caps.irq ++ BitVec.ofBool c.caps.dbg ∧
    (∃ k, s.qp = Config.draw 3 k) ∧ (∃ k, s.qr = Config.draw 12 k) ∧ (∃ k, s.res = Config.draw 64 k) ∧
    (∃ k, s.rlc = Config.draw 6 k) ∧ (∃ k, s.fcmd = Config.draw 40 k) ∧
    s.trace = [] ∧ s.pending = []

/-- 70_reset_and_hazards.md R110: a reset may fall on any state, also in the middle of a command. Every piece of state
takes its reset value, the command in progress is abandoned, what it emitted stays emitted, and the block is ready. The
environment's values (log entry 8), the emptied port (log entry 15) and the two lists of transactions (log entry 18) are
the model's. -/
def Obligations.ResetAbandonsTheCommandInProgress : Prop :=
  ∀ (s : State) (rest : List Event), s.sched = .reset :: rest →
    step s = .next { State.drawn s.cfg s.draws with earlier := s.earlier ++ s.trace, sched := rest } ∧
    ∀ t, step s = .next t → t.ready = true ∧ t.trace = [] ∧ t.earlier = s.earlier ++ s.trace

/-! ### The command port and one step -/

/-- A step runs the command in progress: the command `CMDR` decodes to, at the transaction `SEQ` names (10_state.md R13,
30_encoding.md R46, R55). Around it the step only takes WDGQ's turn off the schedule, and where another writer's writes are
scheduled inside it (20_memory.md R37), these change the environment and the count of the free values (log entries 14, 25).
-/
def Obligations.StepRunsTheDecodedCommand : Prop :=
  (∀ (s : State) (i : Instr), s.halt = false → s.busy = true → decode s.cfg.caps s.cmdr = .ok i →
    (s.sched = [] → step s = exec i s) ∧
    (∀ rest, s.sched = .wdgq :: rest → step s = exec i { s with sched := rest }) ∧
    (∀ ws rest t, s.sched = .within ws :: rest → exec i { s with sched := rest } = .next t →
      step s = .next (t.interfered { s with sched := rest } ws) ∧
        ∃ e n, t.interfered { s with sched := rest } ws = { t with env := e, draws := n })) ∧
  (∀ (s : State) (i : Instr), WellFormed s.cfg.caps i = true →
    step (s.withFetchWord 40 (encode i).toNat) = exec i (s.withFetchWord 40 (encode i).toNat))

/-- 30_encoding.md R54: ready exactly when `BUSY = 0` and `HALT = 0`; a ready block accepts the oldest presented word
(R55); a word presented while `BUSY = 1` is neither lost nor executed early. The model's own here: the list that presented
words stand in, and that its oldest is accepted (log entry 15), and acceptance as a step of its own (log entry 1). -/
def Obligations.CommandPortHandshake : Prop :=
  ∀ s : State,
    (s.ready = true ↔ s.busy = false ∧ s.halt = false) ∧
    (∀ w rest, s.ready = true → s.pending = w :: rest →
      wdgqStep s = .next { s with cmdr := w, busy := true, seq := 0#3, pending := rest }) ∧
    (s.ready = true → s.pending = [] → wdgqStep s = .next s) ∧
    (∀ t, s.busy = true → s.halt = false → wdgqStep s = .next t → t.pending = s.pending)

/-- 60_exceptions.md R96, 30_encoding.md R55: while `HALT = 1`, and until a reset, every step completes, emits no
transaction and changes none of WDGQ's state, whatever is presented. (What is left of the port's list, of the schedule
and of the environment is the model's, log entries 9, 14, 15, 22, 25.) -/
def Obligations.HaltedBlockChangesNothing : Prop :=
  ∀ s : State, s.halt = true → resetTurn s = false →
    ∃ p e n q, step s = .next { s with pending := p, env := e, draws := n, sched := q }

/-! ### Faults -/

/-- 60_exceptions.md R94: fault entry is one step; it writes the fault record and the idle sequencer, and nothing else. -/
def Obligations.FaultEntryRecordsAndStops : Prop :=
  ∀ (s : State) (code : FaultCode),
    s.raise code = { s with fault := code, fcmd := s.cmdr, halt := true, busy := false, seq := 0#3 } ∧
    FaultCode.none.code = 0#2 ∧ FaultCode.wzero.code = 1#2 ∧ FaultCode.illcmd.code = 2#2 ∧ FaultCode.seqerr.code = 3#2

/-- 30_encoding.md R49: the illegal words, all of them, and what one does: it raises `ILLCMD`, emits no transaction and
changes no state other than the fault record. -/
def Obligations.IllegalWordsRaiseIllcmd : Prop :=
  (∀ (c : Caps) (w : Command),
    let op := (w.extractLsb' 32 8).toNat
    let arg := (w.extractLsb' 0 32).toNat
    (∃ e, decode c w = .error e) ↔
      op = 0x00 ∨ (0x05 ≤ op ∧ op ≤ 0x0F) ∨ (0x14 ≤ op ∧ op ≤ 0x1F) ∨ 0x26 ≤ op ∨
      (op ∈ [0x03, 0x04, 0x11, 0x12, 0x20, 0x23, 0x24] ∧ arg ≠ 0) ∨
      (op ∈ [0x13, 0x25] ∧ arg / 2 ≠ 0) ∨
      (op = 0x13 ∧ c.dbg = false) ∨ (op = 0x25 ∧ c.irq = false)) ∧
  (∀ (s : State) (e : DecodeError), s.halt = false → s.busy = true → decode s.cfg.caps s.cmdr = .error e →
    wdgqStep s = .next { s with fault := .illcmd, fcmd := s.cmdr, halt := true, busy := false, seq := 0#3 })

/-- 60_exceptions.md R93: any window watchdog command but `WW.NEW`, before its first transaction, with `WCK = 0`, raises
`SEQERR`. No other command's transaction reads `WCK` (read from 10_state.md R17): two states that differ only in it do the
same, and differ at most in it afterwards. -/
def Obligations.UnconstructedControllerRaisesSeqerr : Prop :=
  (∀ (i : Instr) (s : State), needsWck i = true → s.wck = false → s.seq = 0#3 →
    exec i s = .next { s with fault := .seqerr, fcmd := s.cmdr, halt := true, busy := false, seq := 0#3 }) ∧
  (∀ i : Instr, needsWck i = true ↔
    (∃ d, i = .wwSetwin d) ∨ (∃ d, i = .wwStart d) ∨ i = .wwFeed ∨ i = .wwIval ∨ ∃ b, i = .wwEwi b) ∧
  (∀ (i : Instr) (s t : State), needsWck i = false → exec i s = .next t → t.halt = s.halt ∧ t.fault = s.fault) ∧
  (∀ (i : Instr) (s t : State) (b : Bool), needsWck i = false ∨ s.seq ≠ 0#3 → exec i s = .next t →
    ∃ b', exec i { s with wck := b } = .next { t with wck := b' })

/-- 60_exceptions.md R91: `WW.SETWIN` with a zero count raises `WZERO` after its query and after `QP`, `QR` are written,
before any write; the count is zero exactly when the request is below one counter cycle (42_wwdg.md R80). No other
command raises it. That the query, `QP` and `QR`, the check and the fault entry fall into one step is log entry 2. -/
def Obligations.WindowBelowOneCycleRaisesWzero : Prop :=
  (∀ (d : Duration) (s : State), s.seq = 0#3 → s.wck = true → (quantize (instW s.cfg) d s.env.pclk).2 = 0#12 →
    exec (.wwSetwin d) s = .next { s with
      fq := s.env.pclk
      qp := (quantize (instW s.cfg) d s.env.pclk).1
      qr := 0#12
      trace := s.trace ++ [.clkQuery .pclk s.env.pclk]
      fault := .wzero
      fcmd := s.cmdr
      halt := true
      busy := false
      seq := 0#3 }) ∧
  (∀ (c : Config) (d : Duration) (f : Freq),
    (quantize (instW c) d f).2 = 0#12 ↔ d.toNat * f.toNat < 4096000000) ∧
  (∀ (i : Instr) (s t : State), exec i s = .next t → t.fault = .wzero → s.fault = .wzero ∨ ∃ d, i = .wwSetwin d)

/-- 60_exceptions.md R95: the checks come in a fixed order and the first that fires ends the command: `HALT`, decode,
state check, execution. -/
def Obligations.FaultChecksComeInOrder : Prop :=
  ∀ s : State,
    (s.halt = true → ∃ p, wdgqStep s = .next { s with pending := p }) ∧
    (s.halt = false → s.busy = true → (∃ e, decode s.cfg.caps s.cmdr = .error e) →
      wdgqStep s = .next (s.raise .illcmd)) ∧
    (∀ i, s.halt = false → s.busy = true → decode s.cfg.caps s.cmdr = .ok i → s.seq = 0#3 → needsWck i = true →
      s.wck = false → wdgqStep s = .next (s.raise .seqerr)) ∧
    (∀ t, s.halt = false → s.busy = true → wdgqStep s = .next t → t.fault = .wzero → s.fault ≠ .wzero →
      s.seq = 0#3 ∧ s.wck = true ∧ ∃ d, decode s.cfg.caps s.cmdr = .ok (.wwSetwin d))

/-! ### Who writes what -/

/-- 10_state.md R11: `QP` and `QR` are written only by the five commands that run the quantizer.
That they change in the step of the command's first transaction is not R11's: 40_quantizer.md R63 and R64, 41_iwdg.md
R71 and 42_wwdg.md R80 and R81 list the write after transaction [0] and before the next, and log entry 2 (DEDUCED) puts
it into the step of [0], although 10_state.md R13 speaks of internal writes to `q` after the last transaction. -/
def Obligations.OnlyQuantizingCommandsWriteThePair : Prop :=
  ∀ s t : State, step s = .next t → resetTurn s = false →
    (t.qp = s.qp ∧ t.qr = s.qr) ∨ ∃ i, running s = some i ∧ quantizes i = true ∧ s.seq = 0#3

/-- 10_state.md R12: `RES` is written only by `DEC.I`, `DEC.W`, `IW.IVAL` and `WW.IVAL`, at their completion. -/
def Obligations.OnlyDecodingCommandsWriteTheResult : Prop :=
  ∀ s t : State, step s = .next t → resetTurn s = false →
    t.res = s.res ∨ ∃ i, running s = some i ∧ decodes i = true ∧ t.busy = false

/-- 42_wwdg.md R87: only `WW.START` writes `RLC`; `WW.SETWIN` computes a reload and does not cache it.
That `RLC` changes in the step of `WW.START`'s transaction [1] is not R87's: R81 lists the write after [1] and before
[2], and log entry 2 (DEDUCED) puts it into the step of [1]. -/
def Obligations.OnlyWwStartWritesTheCachedReload : Prop :=
  (∀ s t : State, step s = .next t → resetTurn s = false →
    t.rlc = s.rlc ∨ ∃ d, running s = some (.wwStart d) ∧ s.seq = 1#3) ∧
  (∀ (d : Duration) (s t : State), exec (.wwSetwin d) s = .next t → t.rlc = s.rlc)

/-- 10_state.md R15, R16, R17: `IWDG_ST`, `WWDG_ST` and `WCK` are set only by the completion of `IW.START`, `WW.START` and
`WW.NEW`, and only a reset clears one. -/
def Obligations.StateBitsAreOneWay : Prop :=
  ∀ s t : State, step s = .next t → resetTurn s = false →
    (t.iwdgSt = s.iwdgSt ∨ (t.iwdgSt = .running ∧ t.busy = false ∧ ∃ d, running s = some (.iwStart d))) ∧
    (t.wwdgSt = s.wwdgSt ∨ (t.wwdgSt = .running ∧ t.busy = false ∧ ∃ d, running s = some (.wwStart d))) ∧
    (t.wck = s.wck ∨ (t.wck = true ∧ t.busy = false ∧ running s = some .wwNew))

/-- 10_state.md R18, 60_exceptions.md R94, R96: the fault record is written only by fault entry, from a block that is
not halted, and with the word in progress; once written only a reset changes it. -/
def Obligations.FaultRecordIsSticky : Prop :=
  ∀ s t : State, step s = .next t → resetTurn s = false →
    (t.halt = s.halt ∧ t.fault = s.fault ∧ t.fcmd = s.fcmd) ∨
    (s.halt = false ∧ s.busy = true ∧ wdgqTurn s = true ∧
      t.halt = true ∧ t.fault ≠ .none ∧ t.fcmd = s.cmdr ∧ t.busy = false ∧ t.seq = 0#3)

/-- 10_state.md R21: the capability bits never change, not even by a reset; nor do the other parameters of 00_scope.md
R6. -/
def Obligations.ParametersNeverChange : Prop :=
  ∀ s t : State, step s = .next t → t.cfg = s.cfg ∧ t.cap = s.cap

/-- 20_memory.md R34, R35: a step adds at most one transaction, at the end of the trace, and only a step of a command in
progress adds one, the one `SEQ` names in the list of the command's rule (`named`, with its values: log entries 3 and 9).
That what was emitted before a reset is a list of its own is log entry 18. -/
def Obligations.TraceGrowsByOneTransactionInOrder : Prop :=
  ∀ s t : State, step s = .next t → resetTurn s = false →
    t.earlier = s.earlier ∧
    (t.trace = s.trace ∨
      ∃ i x, running s = some i ∧ s.seq.toNat < transactions i ∧ named i s = some x ∧ t.trace = s.trace ++ [x])

/-- 20_memory.md R43: each of the nine timing commands emits exactly one `ClkQuery`, as its first transaction, and holds
that answer; the other five emit none. -/
def Obligations.FrequencyIsQueriedFreshAndFirst : Prop :=
  (∀ (i : Instr) (s : State) (dom : Domain), queriedDomain i = some dom → s.seq = 0#3 →
    (needsWck i = true → s.wck = true) →
    ∃ t, exec i s = .next t ∧ t.trace = s.trace ++ [.clkQuery dom (s.env.freq dom)] ∧ t.fq = s.env.freq dom) ∧
  (∀ (i : Instr) (s t : State), exec i s = .next t → (queriedDomain i = none ∨ s.seq ≠ 0#3) →
    t.fq = s.fq ∧ ∀ dom f, t.trace ≠ s.trace ++ [.clkQuery dom f])

/-! ### The field space and the status port -/

/-- 20_memory.md R31: `MemWrite` writes one field and every other field keeps its value; it is one transaction of the
trace, whatever the environment makes of the value. R31 says so of the other fields of the same register; that the fields
of the other registers keep their values too, also where a write is locked or gated, is the model's environment (log
entries 9, 11, 12).
The read-modify-write is not atomic against an intruder (R37). Where its writes `ws` fall inside the step that performs the
`MemWrite`, the field written ends with WDGQ's value, as a write of it leaves it; a field of another register keeps what
the intruder wrote; a field of the same register ends, while the gate is open, as it was before the step, so the
intruder's write to it is lost, but for a `wdga` that it has set (R41) and an `ewi`, which a write back may not clear (log
entry 13); and the trace holds WDGQ's transaction alone. The last clauses are the model's (log entry 25). -/
def Obligations.FieldWriteLeavesOtherFields : Prop :=
  ∀ (s : State) (fa : Field) (v : BitVec fa.width),
    (s.memWrite fa v).trace = s.trace ++ [.memWrite fa v] ∧
    (∀ fb, fb ≠ fa → (s.memWrite fa v).env.fields.get fb = s.env.fields.get fb) ∧
    ∀ (ws : List FieldWrite) (rest : List Event) (u : State), s.sched = .within ws :: rest →
      wdgqStep { s with sched := rest } = .next u → u.trace = s.trace ++ [.memWrite fa v] →
      let e := s.env.writes ws u.draws
      ∃ t, step s = .next t ∧ t.trace = u.trace ∧
        t.env.fields.get fa = e.stored fa v (u.draws + ws.length * writeDraws) ∧
        (∀ fb, fb.register ≠ fa.register → t.env.fields.get fb = e.fields.get fb) ∧
        (e.fields.clkgate = 1#1 → ∀ fb, fb.register = fa.register → fb ≠ fa → fb ≠ .wdga → fb ≠ .ewi →
          t.env.fields.get fb = s.env.fields.get fb) ∧
        (e.fields.wdga = 1#1 → t.env.fields.wdga = 1#1)

/-- 60_exceptions.md R102, 10_state.md R22, R23: the unlock key unlocks, the refresh key locks, the start key starts the
countdown; `pr` and `rl` take a written value while unlocked; `wdga` once set is not cleared, by no write and by no change of the
environment's own (20_memory.md R41). A write leaves the two clocks as they were, and a write to a field other than the
key leaves the write protection and the countdown as they were. What a write leaves in the environment is the model's
(log entries 9, 10). -/
def Obligations.KeysAndStickyEnable : Prop :=
  ∀ (e : Env) (n : Nat),
    (e.write .key 0x5555#16 n).unlocked = true ∧
    (e.write .key 0xAAAA#16 n).unlocked = false ∧
    (e.write .key 0xCCCC#16 n).counting = true ∧
    (e.counting = true → ∀ (fa : Field) (v : BitVec fa.width), (e.write fa v n).counting = true) ∧
    (e.unlocked = true → (∀ v, (e.write .pr v n).fields.pr = v) ∧ ∀ v, (e.write .rl v n).fields.rl = v) ∧
    (e.fields.wdga = 1#1 → ∀ (fa : Field) (v : BitVec fa.width), (e.write fa v n).fields.wdga = 1#1) ∧
    (e.fields.wdga = 1#1 → ∀ (fa : Field) (v : BitVec fa.width), (e.drift fa v).fields.wdga = 1#1) ∧
    (∀ (fa : Field) (v : BitVec fa.width), (e.write fa v n).lsi = e.lsi ∧ (e.write fa v n).pclk = e.pclk) ∧
    (∀ (fa : Field) (v : BitVec fa.width), fa ≠ .key →
      (e.write fa v n).unlocked = e.unlocked ∧ (e.write fa v n).counting = e.counting)

/-- 20_memory.md R41, 41_iwdg.md R76: whatever agent moves, a set `wdga` and a countdown once started stay so until a
reset. The environment is the model's (log entries 9, 10, 25). -/
def Obligations.EnablesAreNeverUndone : Prop :=
  ∀ s t : State, step s = .next t → resetTurn s = false →
    (s.env.fields.wdga = 1#1 → t.env.fields.wdga = 1#1) ∧ (s.env.counting = true → t.env.counting = true)

/-- 10_state.md R20: the eight status registers, bit for bit, unused bits zero, in every state (busy and halted too). -/
def Obligations.StatusPortPacking : Prop :=
  ∀ s : State,
    (statusRead s 0).toNat =
      s.busy.toNat + 2 * s.halt.toNat + 4 * s.iwdgSt.bit.toNat + 8 * s.wwdgSt.bit.toNat + 16 * s.wck.toNat +
        32 * s.seq.toNat ∧
    (statusRead s 1).toNat = s.fault.code.toNat ∧
    (statusRead s 2).toNat = s.fcmd.toNat ∧
    (statusRead s 3).toNat = s.rlc.toNat ∧
    (statusRead s 4).toNat = s.cfg.caps.dbg.toNat + 2 * s.cfg.caps.irq.toNat ∧
    (statusRead s 5).toNat = s.qp.toNat ∧
    (statusRead s 6).toNat = s.qr.toNat ∧
    statusRead s 7 = s.res

/-! ### Encoding -/

/-- Decode and encode agree (30_encoding.md R44 to R47): every command that exists on a variant decodes from its word
with its operand, and a word has no other meaning. -/
def Obligations.DecodeAndEncodeAgree : Prop :=
  (∀ (c : Caps) (i : Instr), WellFormed c i = true → decode c (encode i) = .ok i) ∧
  (∀ (c : Caps) (w : Command) (i : Instr), decode c w = .ok i → encode i = w ∧ WellFormed c i = true)

/-- 30_encoding.md R46: a decoder can be written from the opcode table alone: a word is a command exactly when it fits a
row whose capability is present, and rows are disjoint, so at most one fits. -/
def Obligations.OpcodeTableDecidesDecoding : Prop :=
  (∀ (w : Command) (r r' : OpcodeRow), r ∈ opcodeRows → r' ∈ opcodeRows → r.fits w = true → r'.fits w = true → r = r') ∧
  (∀ (c : Caps) (w : Command),
    (∃ i, decode c w = .ok i) ↔
      ∃ r ∈ opcodeRows, r.fits w = true ∧ (r.mnemonic = "IW.DBG" → c.dbg = true) ∧ (r.mnemonic = "WW.EWI" → c.irq = true)) ∧
  (∀ (c : Caps) (w : Command) (i : Instr), decode c w = .ok i →
    ∃ r ∈ opcodeRows, r.fits w = true ∧ r.mnemonic = mnemonicOf i)

/-- Words written out from the encoding of 30_encoding.md R47 and the vectors of 95_test_vectors.md (V-E1 to V-E25). -/
def Obligations.WordsOfEachFamilyDecode : Prop :=
  decode Caps.both 0x0100000FA0#40 = .ok (.qntI 4000#32) ∧
  decode Caps.both 0x0400000000#40 = .ok .decW ∧
  decode Caps.both 0x10FFFFFFFF#40 = .ok (.iwStart 4294967295#32) ∧
  decode Caps.both 0x1300000001#40 = .ok (.iwDbg true) ∧
  decode Caps.both 0x220000C350#40 = .ok (.wwStart 50000#32) ∧
  decode Caps.both 0x2500000000#40 = .ok (.wwEwi false) ∧
  decode Caps.both 0x2600000000#40 = .error .unassignedOp ∧
  decode Caps.both 0x1100000001#40 = .error .reservedBits ∧
  decode { dbg := false, irq := true } 0x1300000001#40 = .error .capabilityAbsent

/-! ### The quantizer -/

/-- 40_quantizer.md R59: the closed form. The result's index is the smallest at which the count fits, or the largest
index; the count is the one floor division at that index, clamped; and a count found above index 0 without clamping is at
least half of the range. -/
def Obligations.QuantizeClosedForm : Prop :=
  ∀ (q : Instantiation) (d : Duration) (f : Freq), IsInstantiation q →
    let p := (quantize q d f).1
    let r := (quantize q d f).2
    let n0 := exactCycles q d f
    p ≤ q.pmax ∧
    (p < q.pmax → n0 >>> p.toNat ≤ q.rmax.toNat) ∧
    (∀ k, k < p.toNat → q.rmax.toNat < n0 >>> k) ∧
    r.toNat = min q.rmax.toNat (n0 >>> p.toNat) ∧
    n0 >>> p.toNat = d.toNat * f.toNat / (q.unit.toNat * exactDiv q p) ∧
    (0 < p.toNat → n0 >>> p.toNat ≤ q.rmax.toNat → (q.rmax.toNat + 1) / 2 ≤ r.toNat)

/-- 40_quantizer.md R58: no value leaves its width, so the 64-bit arithmetic of step 1 and of the decode is exact. -/
def Obligations.SixtyFourBitArithmeticIsExact : Prop :=
  ∀ (q : Instantiation) (d : Duration) (f : Freq) (p : BitVec 3) (r : BitVec 12), IsInstantiation q →
    d.toNat * f.toNat < 2 ^ 64 ∧
    0 < q.unit.toNat * q.div0.toNat ∧ q.unit.toNat * q.div0.toNat < 2 ^ 33 ∧
    exactDiv q p * 1000000 < 2 ^ 39 ∧
    r.toNat * (exactDiv q p * 1000000 / f.toNat) < 2 ^ 51 ∧
    (cycles q d f).toNat = exactCycles q d f ∧
    (decodeUs q p r f).toNat = r.toNat * (exactDiv q p * 1000000 / f.toNat)

/-- 40_quantizer.md R61, R67 (b), (d): the pair found is never longer than the request and, when not clamped, short of it
by less than one count; the integer decode loses less than one microsecond per count (for a count of 0 nothing, log entry
24); and decoding never exceeds the request, in microseconds or in milliseconds. Multiplied out, in exact arithmetic. -/
def Obligations.QuantizationErrorIsBounded : Prop :=
  ∀ (q : Instantiation) (d : Duration) (f : Freq), IsInstantiation q → f ≠ 0#32 →
    let p := (quantize q d f).1
    let r := (quantize q d f).2
    let v := (decodeUs q p r f).toNat
    let exact := r.toNat * exactDiv q p
    (exactCycles q d f >>> p.toNat ≤ q.rmax.toNat →
      exact * q.unit.toNat ≤ d.toNat * f.toNat ∧ d.toNat * f.toNat < (exact + exactDiv q p) * q.unit.toNat) ∧
    (q.rmax.toNat < exactCycles q d f >>> p.toNat →
      r = q.rmax ∧ exact * q.unit.toNat < d.toNat * f.toNat) ∧
    v * f.toNat ≤ exact * 1000000 ∧
    (0 < r.toNat → exact * 1000000 < (v + r.toNat) * f.toNat) ∧
    v * q.unit.toNat ≤ d.toNat * 1000000 ∧
    (q = instI → v / 1000 ≤ d.toNat)

/-- 40_quantizer.md R67 (c): a request longer than the maximum representable duration gives the largest pair. -/
def Obligations.TooLongARequestSaturates : Prop :=
  ∀ (q : Instantiation) (d : Duration) (f : Freq), IsInstantiation q →
    q.rmax.toNat * exactDiv q q.pmax * q.unit.toNat < d.toNat * f.toNat →
    quantize q d f = (q.pmax, q.rmax)

/-- 40_quantizer.md R68, R69: a zero frequency quantizes to `(0, 0)` and decodes to no stated value, as does an index
outside the table; every other decode is that of R60. The interval commands write a free value where there is none. -/
def Obligations.ZeroFrequencyAndOutOfTableIndex : Prop :=
  (∀ (q : Instantiation) (d : Duration), IsInstantiation q → quantize q d 0#32 = (0#3, 0#12)) ∧
  (∀ (q : Instantiation) (p : BitVec 3) (r : BitVec 12) (f : Freq),
    (f = 0#32 ∨ q.pmax < p → interval q p r f = none) ∧
    (f ≠ 0#32 → p ≤ q.pmax → interval q p r f = some (decodeUs q p r f))) ∧
  (∀ s : State, s.setRes none = { s with res := Config.draw 64 s.draws, draws := s.draws + 1 })

/-! ### Invariants of every step -/

/-- The reset state, with every choice of parameters and of drawn values, has the invariant. -/
def Obligations.InvariantHoldsAtReset : Prop :=
  Invariant State.reset ∧ ∀ (c : Config) (n : Nat), Invariant (State.drawn c n)

/-- Every step of every agent keeps the invariant: `HALT` is 1 exactly when a fault is recorded, an idle sequencer stands
at 0, `SEQ` numbers a transaction of the command in progress, the unlock scope is open only inside `IW.START`, and every
transaction emitted is a legal one (10_state.md R13, R18, R22, 41_iwdg.md R75, 42_wwdg.md R85). -/
def Obligations.EveryStepKeepsTheInvariant : Prop :=
  ∀ s t : State, Invariant s → step s = .next t → Invariant t

/-- From a state with the invariant no step stops: the three faults of the spec are next states, and `SEQ` never passes
the command's last transaction (10_state.md R13, 60_exceptions.md R94). -/
def Obligations.InvariantExcludesEveryStop : Prop :=
  ∀ s : State, Invariant s → ∃ t, step s = .next t

/-- 10_state.md R13: up to its last transaction no command stops, in any state. Where the state check does not fire (`WCK`
is 1 before the first transaction of a command that needs it), the step emits the transaction that `SEQ` names (`named`);
and unless it is the query of `WW.SETWIN` with a zero count (`WZERO`), no fault is recorded and `SEQ` moves on, or, after
the last transaction, the block is idle. A command stops only where `SEQ` is past its last transaction, under the name
`seqOutOfRange` (log entry 4; the values of the transactions: log entries 3 and 9; the moments: log entry 2). -/
def Obligations.EveryTransactionOfEveryCommandCompletes : Prop :=
  ∀ (i : Instr) (s : State),
    (s.seq.toNat < transactions i → ∃ t, exec i s = .next t) ∧
    (s.seq.toNat < transactions i → (needsWck i = true → s.seq = 0#3 → s.wck = true) →
      ∃ t x, exec i s = .next t ∧ named i s = some x ∧ t.trace = s.trace ++ [x] ∧
        ((∀ d, i = .wwSetwin d → s.seq = 0#3 → (quantize (instW s.cfg) d s.env.pclk).2 ≠ 0#12) →
          t.halt = s.halt ∧ t.fault = s.fault ∧ t.fcmd = s.fcmd ∧
          (s.seq.toNat + 1 < transactions i → t.seq = s.seq + 1#3 ∧ t.busy = s.busy) ∧
          (s.seq.toNat + 1 = transactions i → t.seq = 0#3 ∧ t.busy = false))) ∧
    (transactions i ≤ s.seq.toNat → exec i s = .fault .seqOutOfRange)

/-- 10_state.md R13, 70_reset_and_hazards.md R127: a command emits at most six transactions, so with nothing else
scheduled a busy block is idle again within six steps, having completed or faulted. -/
def Obligations.CommandEndsWithinSixSteps : Prop :=
  ∀ s : State, Invariant s → s.sched = [] → s.busy = true →
    ∃ k t, k ≤ 6 ∧ steps k s = .next t ∧ t.busy = false ∧
      t.trace.length ≤ s.trace.length + 6

/-- 41_iwdg.md R75, 60_exceptions.md R97: between the unlock key and the lock key no step faults, and wherever
`BUSY = 0` the trace since the last reset (20_memory.md R34) leaves the unlock scope closed.
R75 says that a reset between [1] and [4] of `IW.START` leaves a scope open: that open scope stands in the trace of
before the reset, which log entry 18 (DESIGN CHOICE) moves to `State.earlier`, and the first clause holds after such a
reset only because the trace of after it starts empty.
The second clause leaves out the step that takes a reset. -/
def Obligations.UnlockScopeIsAlwaysClosed : Prop :=
  ∀ s t : State, Invariant s → step s = .next t →
    (t.busy = false → scopeOf t.trace = some .closed) ∧
    (inScope s = true → resetTurn s = false → t.halt = false ∧ t.fault = s.fault ∧ t.busy = true)

/-! ### What does not matter -/

/-- 00_scope.md R7 (3), 20_memory.md R28, R32: WDGQ depends on its environment only through the answers to its queries
and reads. Two states that differ only in an environment that answers alike step alike, and answer alike again. That they
answer alike again, and the write protection and the gate that decide it, are the model's environment (log entries 9, 11,
12, 25). -/
def Obligations.OnlyAnswersOfTheEnvironmentMatter : Prop :=
  ∀ (s t : State) (e : Env), AnswersAlike s.env e → step s = .next t →
    ∃ e', AnswersAlike t.env e' ∧ step { s with env := e } = .next { t with env := e' }

/-- 41_iwdg.md R70, 42_wwdg.md R78, 10_state.md R15, R16: nothing reads `IWDG_ST` or `WWDG_ST`. -/
def Obligations.ControllerStatesAreNeverRead : Prop :=
  ∀ (s t : State) (a b : Controller), step s = .next t →
    ∃ a' b', step { s with iwdgSt := a, wwdgSt := b } = .next { t with iwdgSt := a', wwdgSt := b' }

/-! ### Hazards -/

/-- 70_reset_and_hazards.md R117: an intruder's refresh key between transactions [1] and [2] of `IW.START` locks the
fields again; WDGQ does not notice, and the prescaler field then holds no stated value (the free value, log entry 11). -/
def Obligations.IntruderCanCloseTheScope : Prop :=
  ∀ (d : Duration) (s : State),
    s.sched = [.intrude .key 0xAAAA#16] → s.halt = false → s.busy = true → s.cmdr = encode (.iwStart d) → s.seq = 2#3 →
    ∃ t, steps 2 s = .next t ∧
      t.trace = s.trace ++ [.memWrite .pr (quantize instI d s.fq).1] ∧ t.seq = 3#3 ∧ t.halt = false ∧
      t.env.unlocked = false ∧ ∃ k, t.env.fields.pr = Config.draw 3 k

/-- 42_wwdg.md R88, 70_reset_and_hazards.md R118: `WW.START` overwrites the prescaler index that a `WW.SETWIN` committed,
while the window count stays; with the rule's own numbers the two requests find different indices. That the field then
holds the index with an open gate and that `w` stays are the model's environment (log entries 9, 12); that the index is
that of the operand and the latched frequency is log entry 3. -/
def Obligations.OnePrescalerForWindowAndTimeout : Prop :=
  (∀ (d : Duration) (s t : State), s.seq = 1#3 → s.env.fields.clkgate = 1#1 → exec (.wwStart d) s = .next t →
    t.env.fields.wdgtb = (quantize (instW s.cfg) d s.fq).1 ∧ t.env.fields.w = s.env.fields.w) ∧
  (∀ c : Config, c.pmaxW = 7#3 →
    quantize (instW c) 10000#32 48000000#32 = (1#3, 58#12) ∧ quantize (instW c) 50000#32 48000000#32 = (4#3, 36#12))

/-! ### The quantizer family -/

/-- 40_quantizer.md R63: `QNT.I d`. One query of LSI; `QP`, `QR` take the pair; nothing else changes but the idle
sequencer and the latched frequency. -/
def Obligations.QntIWritesThePair : Prop :=
  (∀ (d : Duration) (s : State), s.seq = 0#3 →
    exec (.qntI d) s = .next { s with
      fq := s.env.lsi
      qp := (quantize instI d s.env.lsi).1
      qr := (quantize instI d s.env.lsi).2
      trace := s.trace ++ [.clkQuery .lsi s.env.lsi]
      busy := false
      seq := 0#3 }) ∧
  (∀ (c : Caps) (d : Duration), decode c (0x01#8 ++ d) = .ok (.qntI d)) ∧
  (∀ (d : Duration) (f : Freq), d.toNat * f.toNat < 4000 → quantize instI d f = (0#3, 0#12)) ∧
  (∀ (d : Duration) (f : Freq), d.toNat * f.toNat / 4000 < 262144 →
    (quantize instI d f).2.toNat = d.toNat * f.toNat / 4000 / 2 ^ (quantize instI d f).1.toNat) ∧
  (∀ (d : Duration) (f : Freq), 262144 ≤ d.toNat * f.toNat / 4000 → quantize instI d f = (6#3, 0xFFF#12)) ∧
  quantize instI 4000#32 32000#32 = (3#3, 0xFA0#12)

/-- 40_quantizer.md R64: `QNT.W d`. As `QNT.I` with PCLK; `WCK` is not required, a zero count is no fault, `QR[11:6]`
is 0 after it. -/
def Obligations.QntWWritesThePair : Prop :=
  (∀ (d : Duration) (s : State), s.seq = 0#3 →
    exec (.qntW d) s = .next { s with
      fq := s.env.pclk
      qp := (quantize (instW s.cfg) d s.env.pclk).1
      qr := (quantize (instW s.cfg) d s.env.pclk).2
      trace := s.trace ++ [.clkQuery .pclk s.env.pclk]
      busy := false
      seq := 0#3 }) ∧
  (∀ (c : Caps) (d : Duration), decode c (0x02#8 ++ d) = .ok (.qntW d)) ∧
  (∀ (c : Config) (d : Duration) (f : Freq), (quantize (instW c) d f).2.extractLsb' 6 6 = 0#6) ∧
  (∀ (c : Config) (d : Duration) (f : Freq), d.toNat * f.toNat < 4096000000 → quantize (instW c) d f = (0#3, 0#12)) ∧
  (∀ c : Config, quantize (instW c) 5120#32 1000000#32 = (0#3, 1#12))

/-- 40_quantizer.md R65: `DEC.I`. One query of LSI; `RES` takes the decode of `QP`, `QR` in microseconds, or a free value
at a zero frequency or with `QP = 7`; a frequency above `DIV(QP) * 10^6` gives 0. -/
def Obligations.DecIWritesTheResult : Prop :=
  (∀ s : State, s.seq = 0#3 → s.env.lsi ≠ 0#32 → s.qp.toNat ≤ 6 →
    exec .decI s = .next { s with
      fq := s.env.lsi
      res := decodeUs instI s.qp s.qr s.env.lsi
      trace := s.trace ++ [.clkQuery .lsi s.env.lsi]
      busy := false
      seq := 0#3 }) ∧
  (∀ s : State, s.seq = 0#3 → (s.env.lsi = 0#32 ∨ 6 < s.qp.toNat) →
    exec .decI s = .next { s with
      fq := s.env.lsi
      res := Config.draw 64 s.draws
      draws := s.draws + 1
      trace := s.trace ++ [.clkQuery .lsi s.env.lsi]
      busy := false
      seq := 0#3 }) ∧
  (∀ (c : Caps) (a : BitVec 32), decode c (0x03#8 ++ a) = if a = 0#32 then .ok .decI else .error .reservedBits) ∧
  (∀ (p : BitVec 3) (r : BitVec 12) (f : Freq), 4 * 2 ^ p.toNat * 1000000 < f.toNat → decodeUs instI p r f = 0#64) ∧
  decodeUs instI 3#3 4000#12 32000#32 = 4000000#64

/-- 40_quantizer.md R66: `DEC.W`. As `DEC.I` with PCLK and the window watchdog's divisions; all 12 bits of `QR` are
used. -/
def Obligations.DecWWritesTheResult : Prop :=
  (∀ s : State, s.seq = 0#3 → s.env.pclk ≠ 0#32 → s.qp ≤ s.cfg.pmaxW →
    exec .decW s = .next { s with
      fq := s.env.pclk
      res := decodeUs (instW s.cfg) s.qp s.qr s.env.pclk
      trace := s.trace ++ [.clkQuery .pclk s.env.pclk]
      busy := false
      seq := 0#3 }) ∧
  (∀ s : State, s.seq = 0#3 → (s.env.pclk = 0#32 ∨ s.cfg.pmaxW < s.qp) →
    exec .decW s = .next { s with
      fq := s.env.pclk
      res := Config.draw 64 s.draws
      draws := s.draws + 1
      trace := s.trace ++ [.clkQuery .pclk s.env.pclk]
      busy := false
      seq := 0#3 }) ∧
  (∀ (c : Caps) (a : BitVec 32), decode c (0x04#8 ++ a) = if a = 0#32 then .ok .decW else .error .reservedBits) ∧
  (∀ c : Config, decodeUs (instW c) 0#3 1#12 1000000#32 = 4096#64 ∧
    decodeUs (instW c) 3#3 4000#12 1000000#32 = 131072000#64)

/-! ### The independent watchdog family -/

/-- 41_iwdg.md R71: the six transactions of `IW.START d`, each as one step of the command, in every state (`Running`
included: it does not detect a restart). `p` and `r` are those of the operand and the latched frequency, which is the
model's reading of the rule (log entry 3).
What a write leaves in the environment is the model's (log entry 9). -/
def Obligations.IwStartTransactions : Prop :=
  ∀ (d : Duration) (s : State),
    let p := (quantize instI d s.fq).1
    let r := (quantize instI d s.fq).2
    (s.seq = 0#3 → exec (.iwStart d) s = .next { s with
      fq := s.env.lsi
      qp := (quantize instI d s.env.lsi).1
      qr := (quantize instI d s.env.lsi).2
      trace := s.trace ++ [.clkQuery .lsi s.env.lsi]
      seq := 1#3 }) ∧
    (s.seq = 1#3 → exec (.iwStart d) s = .next { s with
      trace := s.trace ++ [.memWrite .key 0x5555#16]
      env := s.env.write .key 0x5555#16 s.draws
      draws := s.draws + 2
      seq := 2#3 }) ∧
    (s.seq = 2#3 → exec (.iwStart d) s = .next { s with
      trace := s.trace ++ [.memWrite .pr p]
      env := s.env.write .pr p s.draws
      draws := s.draws + 2
      seq := 3#3 }) ∧
    (s.seq = 3#3 → exec (.iwStart d) s = .next { s with
      trace := s.trace ++ [.memWrite .rl r]
      env := s.env.write .rl r s.draws
      draws := s.draws + 2
      seq := 4#3 }) ∧
    (s.seq = 4#3 → exec (.iwStart d) s = .next { s with
      trace := s.trace ++ [.memWrite .key 0xAAAA#16]
      env := s.env.write .key 0xAAAA#16 s.draws
      draws := s.draws + 2
      seq := 5#3 }) ∧
    (s.seq = 5#3 → exec (.iwStart d) s = .next { s with
      trace := s.trace ++ [.memWrite .key 0xCCCC#16]
      env := s.env.write .key 0xCCCC#16 s.draws
      draws := s.draws + 2
      iwdgSt := .running
      busy := false
      seq := 0#3 })

/-- 41_iwdg.md R71, as a run: from an idle block with `IW.START d` presented and nothing else scheduled, seven steps
(acceptance and six transactions) leave exactly the rule's trace and state, and, in the model's environment (log entry 9),
the pair committed, the fields locked and the countdown started. That the fields are still locked after the start key is
the model's: the lock key closes the scope (R75), 60_exceptions.md R102 names no effect of the start key on the
protection, and log entry 10 (DEDUCED, unsafe for such a claim) reads from it that the start key opens nothing. -/
def Obligations.IwStartRunArmsTheWatchdog : Prop :=
  ∀ (d : Duration) (s : State) (rest : List Command),
    s.sched = [] → s.halt = false → s.busy = false → s.pending = encode (.iwStart d) :: rest →
    let p := (quantize instI d s.env.lsi).1
    let r := (quantize instI d s.env.lsi).2
    ∃ e, steps 7 s = .next { s with
        pending := rest
        cmdr := encode (.iwStart d)
        fq := s.env.lsi
        qp := p
        qr := r
        trace := s.trace ++ [.clkQuery .lsi s.env.lsi, .memWrite .key 0x5555#16, .memWrite .pr p, .memWrite .rl r,
          .memWrite .key 0xAAAA#16, .memWrite .key 0xCCCC#16]
        env := e
        draws := s.draws + 10
        iwdgSt := .running
        busy := false
        seq := 0#3 } ∧
      e.lsi = s.env.lsi ∧ e.pclk = s.env.pclk ∧ e.unlocked = false ∧ e.counting = true ∧
      e.fields.key = 0xCCCC#16 ∧ e.fields.pr = p ∧ e.fields.rl = r ∧
      (∀ fa, fa ≠ .key → fa ≠ .pr → fa ≠ .rl → e.fields.get fa = s.env.fields.get fa)

/-- 41_iwdg.md R72: `IW.FEED` writes the refresh key and nothing else, started or not.
What a write leaves in the environment is the model's (log entry 9). -/
def Obligations.IwFeedWritesTheRefreshKey : Prop :=
  (∀ s : State, s.seq = 0#3 →
    exec .iwFeed s = .next { s with
      trace := s.trace ++ [.memWrite .key 0xAAAA#16]
      env := s.env.write .key 0xAAAA#16 s.draws
      draws := s.draws + 2
      busy := false
      seq := 0#3 }) ∧
  (∀ (c : Caps) (a : BitVec 32), decode c (0x11#8 ++ a) = if a = 0#32 then .ok .iwFeed else .error .reservedBits)

/-- 41_iwdg.md R73: the three transactions of `IW.IVAL`; the result is in milliseconds, of the fields read back. -/
def Obligations.IwIvalTransactions : Prop :=
  (∀ s : State,
    (s.seq = 0#3 → exec .iwIval s = .next { s with
      fq := s.env.lsi
      trace := s.trace ++ [.clkQuery .lsi s.env.lsi]
      seq := 1#3 }) ∧
    (s.seq = 1#3 → exec .iwIval s = .next { s with
      rb := s.env.fields.pr
      trace := s.trace ++ [.memRead .pr s.env.fields.pr]
      seq := 2#3 }) ∧
    (s.seq = 2#3 → s.fq ≠ 0#32 → s.rb.toNat ≤ 6 → exec .iwIval s = .next { s with
      res := decodeUs instI s.rb s.env.fields.rl s.fq / 1000#64
      trace := s.trace ++ [.memRead .rl s.env.fields.rl]
      busy := false
      seq := 0#3 }) ∧
    (s.seq = 2#3 → (s.fq = 0#32 ∨ 6 < s.rb.toNat) → exec .iwIval s = .next { s with
      res := Config.draw 64 s.draws
      draws := s.draws + 1
      trace := s.trace ++ [.memRead .rl s.env.fields.rl]
      busy := false
      seq := 0#3 })) ∧
  (∀ (c : Caps) (a : BitVec 32), decode c (0x12#8 ++ a) = if a = 0#32 then .ok .iwIval else .error .reservedBits) ∧
  decodeUs instI 3#3 0xFA0#12 32000#32 / 1000#64 = 4000#64

/-- 41_iwdg.md R73, as a run of four steps: what is decoded is what the environment holds, not what was requested.
That a field reads as the environment holds it is the model's (log entry 9). -/
def Obligations.IwIvalRunReportsTheFields : Prop :=
  ∀ (s : State) (rest : List Command),
    s.sched = [] → s.halt = false → s.busy = false → s.pending = encode .iwIval :: rest →
    s.env.lsi ≠ 0#32 → s.env.fields.pr.toNat ≤ 6 →
    steps 4 s = .next { s with
      pending := rest
      cmdr := encode .iwIval
      fq := s.env.lsi
      rb := s.env.fields.pr
      res := decodeUs instI s.env.fields.pr s.env.fields.rl s.env.lsi / 1000#64
      trace := s.trace ++ [.clkQuery .lsi s.env.lsi, .memRead .pr s.env.fields.pr, .memRead .rl s.env.fields.rl]
      busy := false
      seq := 0#3 }

/-- 41_iwdg.md R74: `IW.DBG stop` writes the debug-freeze bit and nothing else; its word is illegal without `CAP_DBG` or
with a reserved bit set.
What a write leaves in the environment is the model's (log entry 9). -/
def Obligations.IwDbgWritesTheFreezeBit : Prop :=
  (∀ (stop : Bool) (s : State), s.seq = 0#3 →
    exec (.iwDbg stop) s = .next { s with
      trace := s.trace ++ [.memWrite .dbgfrz (BitVec.ofBool stop)]
      env := s.env.write .dbgfrz (BitVec.ofBool stop) s.draws
      draws := s.draws + 2
      busy := false
      seq := 0#3 }) ∧
  (∀ (c : Caps) (a : BitVec 32), decode c (0x13#8 ++ a) =
    if c.dbg = false then .error .capabilityAbsent
    else if 2 ≤ a.toNat then .error .reservedBits
    else .ok (.iwDbg (a == 1#32)))

/-! ### The window watchdog family -/

/-- 42_wwdg.md R79: `WW.NEW` opens the bus-clock gate and sets `WCK`, again if issued again.
What a write leaves in the environment is the model's (log entry 9). -/
def Obligations.WwNewConstructsTheController : Prop :=
  (∀ s : State, s.seq = 0#3 →
    exec .wwNew s = .next { s with
      trace := s.trace ++ [.memWrite .clkgate 1#1]
      env := s.env.write .clkgate 1#1 s.draws
      draws := s.draws + 2
      wck := true
      busy := false
      seq := 0#3 }) ∧
  (∀ (c : Caps) (a : BitVec 32), decode c (0x20#8 ++ a) = if a = 0#32 then .ok .wwNew else .error .reservedBits)

/-- 42_wwdg.md R80: the three transactions of `WW.SETWIN d` when it meets no fault; it does not touch `RLC`.
What a write leaves in the environment is the model's (log entry 9). -/
def Obligations.WwSetwinTransactions : Prop :=
  ∀ (d : Duration) (s : State),
    let p := (quantize (instW s.cfg) d s.fq).1
    let r := (quantize (instW s.cfg) d s.fq).2
    (s.seq = 0#3 → s.wck = true → (quantize (instW s.cfg) d s.env.pclk).2 ≠ 0#12 →
      exec (.wwSetwin d) s = .next { s with
        fq := s.env.pclk
        qp := (quantize (instW s.cfg) d s.env.pclk).1
        qr := (quantize (instW s.cfg) d s.env.pclk).2
        trace := s.trace ++ [.clkQuery .pclk s.env.pclk]
        seq := 1#3 }) ∧
    (s.seq = 1#3 → exec (.wwSetwin d) s = .next { s with
      trace := s.trace ++ [.memWrite .wdgtb p]
      env := s.env.write .wdgtb p s.draws
      draws := s.draws + 2
      seq := 2#3 }) ∧
    (s.seq = 2#3 → exec (.wwSetwin d) s = .next { s with
      trace := s.trace ++ [.memWrite .w (r.setWidth 7 ||| s.cfg.wOr)]
      env := s.env.write .w (r.setWidth 7 ||| s.cfg.wOr) s.draws
      draws := s.draws + 2
      busy := false
      seq := 0#3 })

/-- 42_wwdg.md R80, as a run of four steps: a window of at least one counter cycle is committed, index first, and the
block ends idle and without fault; `RLC` is as it was.
What a write leaves in the environment is the model's (log entries 9, 12). -/
def Obligations.WwSetwinRunCommitsTheWindow : Prop :=
  ∀ (d : Duration) (s : State) (rest : List Command),
    s.sched = [] → s.halt = false → s.busy = false → s.pending = encode (.wwSetwin d) :: rest → s.wck = true →
    4096000000 ≤ d.toNat * s.env.pclk.toNat →
    let p := (quantize (instW s.cfg) d s.env.pclk).1
    let r := (quantize (instW s.cfg) d s.env.pclk).2
    ∃ e, steps 4 s = .next { s with
        pending := rest
        cmdr := encode (.wwSetwin d)
        fq := s.env.pclk
        qp := p
        qr := r
        trace := s.trace ++ [.clkQuery .pclk s.env.pclk, .memWrite .wdgtb p, .memWrite .w (r.setWidth 7 ||| s.cfg.wOr)]
        env := e
        draws := s.draws + 4
        busy := false
        seq := 0#3 } ∧
      e.lsi = s.env.lsi ∧ e.pclk = s.env.pclk ∧ e.unlocked = s.env.unlocked ∧ e.counting = s.env.counting ∧
      (s.env.fields.clkgate = 1#1 → e.fields.wdgtb = p ∧ e.fields.w = r.setWidth 7 ||| s.cfg.wOr) ∧
      (∀ fa, fa ≠ .wdgtb → fa ≠ .w → e.fields.get fa = s.env.fields.get fa)

/-- 42_wwdg.md R81: the four transactions of `WW.START d`; the count is cached after [1] and written to `t` in [2].
What a write leaves in the environment is the model's (log entry 9). -/
def Obligations.WwStartTransactions : Prop :=
  ∀ (d : Duration) (s : State),
    let p := (quantize (instW s.cfg) d s.fq).1
    let r := (quantize (instW s.cfg) d s.fq).2
    (s.seq = 0#3 → s.wck = true → exec (.wwStart d) s = .next { s with
      fq := s.env.pclk
      qp := (quantize (instW s.cfg) d s.env.pclk).1
      qr := (quantize (instW s.cfg) d s.env.pclk).2
      trace := s.trace ++ [.clkQuery .pclk s.env.pclk]
      seq := 1#3 }) ∧
    (s.seq = 1#3 → exec (.wwStart d) s = .next { s with
      trace := s.trace ++ [.memWrite .wdgtb p]
      env := s.env.write .wdgtb p s.draws
      draws := s.draws + 2
      rlc := r.setWidth 6
      seq := 2#3 }) ∧
    (s.seq = 2#3 → exec (.wwStart d) s = .next { s with
      trace := s.trace ++ [.memWrite .t (s.rlc.setWidth 7 ||| s.cfg.tOr)]
      env := s.env.write .t (s.rlc.setWidth 7 ||| s.cfg.tOr) s.draws
      draws := s.draws + 2
      seq := 3#3 }) ∧
    (s.seq = 3#3 → exec (.wwStart d) s = .next { s with
      trace := s.trace ++ [.memWrite .wdga 1#1]
      env := s.env.write .wdga 1#1 s.draws
      draws := s.draws + 2
      wwdgSt := .running
      busy := false
      seq := 0#3 })

/-- 42_wwdg.md R81, as a run of five steps, for every request, zero and saturating ones included: the cached reload is the
whole count, and `t` is written before the enable bit.
What a write leaves in the environment is the model's (log entries 9, 12). -/
def Obligations.WwStartRunCachesAndEnables : Prop :=
  ∀ (d : Duration) (s : State) (rest : List Command),
    s.sched = [] → s.halt = false → s.busy = false → s.pending = encode (.wwStart d) :: rest → s.wck = true →
    let p := (quantize (instW s.cfg) d s.env.pclk).1
    let r := (quantize (instW s.cfg) d s.env.pclk).2
    ∃ e, steps 5 s = .next { s with
        pending := rest
        cmdr := encode (.wwStart d)
        fq := s.env.pclk
        qp := p
        qr := r
        rlc := r.setWidth 6
        trace := s.trace ++ [.clkQuery .pclk s.env.pclk, .memWrite .wdgtb p,
          .memWrite .t ((r.setWidth 6).setWidth 7 ||| s.cfg.tOr), .memWrite .wdga 1#1]
        env := e
        draws := s.draws + 6
        wwdgSt := .running
        busy := false
        seq := 0#3 } ∧
      (r.setWidth 6).toNat = r.toNat ∧
      e.lsi = s.env.lsi ∧ e.pclk = s.env.pclk ∧ e.unlocked = s.env.unlocked ∧ e.counting = s.env.counting ∧
      (s.env.fields.clkgate = 1#1 → e.fields.wdgtb = p ∧ e.fields.t = (r.setWidth 6).setWidth 7 ||| s.cfg.tOr ∧
        e.fields.wdga = 1#1) ∧
      (∀ fa, fa ≠ .wdgtb → fa ≠ .t → fa ≠ .wdga → e.fields.get fa = s.env.fields.get fa)

/-- 42_wwdg.md R82, R86: `WW.FEED` writes the cached count to `t` whenever the controller is constructed, whatever the
time, the window and the controller's state: there is no software guard.
What a write leaves in the environment is the model's (log entry 9). -/
def Obligations.WwFeedHasNoGuard : Prop :=
  (∀ s : State, s.seq = 0#3 → s.wck = true →
    exec .wwFeed s = .next { s with
      trace := s.trace ++ [.memWrite .t (s.rlc.setWidth 7 ||| s.cfg.tOr)]
      env := s.env.write .t (s.rlc.setWidth 7 ||| s.cfg.tOr) s.draws
      draws := s.draws + 2
      busy := false
      seq := 0#3 }) ∧
  (∀ (c : Caps) (a : BitVec 32), decode c (0x23#8 ++ a) = if a = 0#32 then .ok .wwFeed else .error .reservedBits)

/-- 42_wwdg.md R83: the two transactions of `WW.IVAL`; the index is read back, the count is the cached one. That the query
and the read answer with what the environment holds is the model's (log entry 9), and so is that a read does so with the
bus-clock gate closed, which nothing here rules out (log entry 12, DESIGN CHOICE). -/
def Obligations.WwIvalTransactions : Prop :=
  (∀ s : State,
    (s.seq = 0#3 → s.wck = true → exec .wwIval s = .next { s with
      fq := s.env.pclk
      trace := s.trace ++ [.clkQuery .pclk s.env.pclk]
      seq := 1#3 }) ∧
    (s.seq = 1#3 → s.fq ≠ 0#32 → s.env.fields.wdgtb ≤ s.cfg.pmaxW → exec .wwIval s = .next { s with
      rb := s.env.fields.wdgtb
      res := decodeUs (instW s.cfg) s.env.fields.wdgtb (s.rlc.setWidth 12) s.fq
      trace := s.trace ++ [.memRead .wdgtb s.env.fields.wdgtb]
      busy := false
      seq := 0#3 }) ∧
    (s.seq = 1#3 → (s.fq = 0#32 ∨ s.cfg.pmaxW < s.env.fields.wdgtb) → exec .wwIval s = .next { s with
      rb := s.env.fields.wdgtb
      res := Config.draw 64 s.draws
      draws := s.draws + 1
      trace := s.trace ++ [.memRead .wdgtb s.env.fields.wdgtb]
      busy := false
      seq := 0#3 })) ∧
  (∀ (c : Caps) (a : BitVec 32), decode c (0x24#8 ++ a) = if a = 0#32 then .ok .wwIval else .error .reservedBits) ∧
  (∀ c : Config, decodeUs (instW c) 0#3 ((12#6).setWidth 12) 1000000#32 = 49152#64)

/-- 42_wwdg.md R83, as a run of three steps, at a frequency other than zero and an index inside the table. That the query
and the read answer with what the environment held at the start is the model's (log entry 9), and so is that the read of
`wdgtb` does so with the bus-clock gate closed, which nothing here rules out (log entry 12, DESIGN CHOICE). -/
def Obligations.WwIvalRunReportsTheCachedCount : Prop :=
  ∀ (s : State) (rest : List Command),
    s.sched = [] → s.halt = false → s.busy = false → s.pending = encode .wwIval :: rest → s.wck = true →
    s.env.pclk ≠ 0#32 → s.env.fields.wdgtb ≤ s.cfg.pmaxW →
    steps 3 s = .next { s with
      pending := rest
      cmdr := encode .wwIval
      fq := s.env.pclk
      rb := s.env.fields.wdgtb
      res := decodeUs (instW s.cfg) s.env.fields.wdgtb (s.rlc.setWidth 12) s.env.pclk
      trace := s.trace ++ [.clkQuery .pclk s.env.pclk, .memRead .wdgtb s.env.fields.wdgtb]
      busy := false
      seq := 0#3 }

/-- 42_wwdg.md R84: the two transactions of `WW.EWI enabled`, the field first, then the mask; its word is illegal without
`CAP_IRQ` or with a reserved bit set.
What a write leaves in the environment is the model's (log entry 9). -/
def Obligations.WwEwiTransactions : Prop :=
  (∀ (enabled : Bool) (s : State),
    (s.seq = 0#3 → s.wck = true → exec (.wwEwi enabled) s = .next { s with
      trace := s.trace ++ [.memWrite .ewi (BitVec.ofBool enabled)]
      env := s.env.write .ewi (BitVec.ofBool enabled) s.draws
      draws := s.draws + 2
      seq := 1#3 }) ∧
    (s.seq = 1#3 → exec (.wwEwi enabled) s = .next { s with
      trace := s.trace ++ [.memWrite .irqmask (BitVec.ofBool enabled)]
      env := s.env.write .irqmask (BitVec.ofBool enabled) s.draws
      draws := s.draws + 2
      busy := false
      seq := 0#3 })) ∧
  (∀ (c : Caps) (a : BitVec 32), decode c (0x25#8 ++ a) =
    if c.irq = false then .error .capabilityAbsent
    else if 2 ≤ a.toNat then .error .reservedBits
    else .ok (.wwEwi (a == 1#32)))

/-- 42_wwdg.md R84, as a run of three steps.
What a write leaves in the environment is the model's (log entries 9, 12, 13). -/
def Obligations.WwEwiRunWritesFieldThenMask : Prop :=
  ∀ (enabled : Bool) (s : State) (rest : List Command),
    s.sched = [] → s.halt = false → s.busy = false → s.pending = encode (.wwEwi enabled) :: rest → s.wck = true →
    s.cfg.caps.irq = true →
    ∃ e, steps 3 s = .next { s with
        pending := rest
        cmdr := encode (.wwEwi enabled)
        trace := s.trace ++ [.memWrite .ewi (BitVec.ofBool enabled), .memWrite .irqmask (BitVec.ofBool enabled)]
        env := e
        draws := s.draws + 4
        busy := false
        seq := 0#3 } ∧
      e.lsi = s.env.lsi ∧ e.pclk = s.env.pclk ∧ e.unlocked = s.env.unlocked ∧ e.counting = s.env.counting ∧
      (s.env.fields.clkgate = 1#1 → enabled = true ∨ s.env.fields.ewi = 0#1 → e.fields.ewi = BitVec.ofBool enabled) ∧
      e.fields.irqmask = BitVec.ofBool enabled ∧
      (∀ fa, fa ≠ .ewi → fa ≠ .irqmask → e.fields.get fa = s.env.fields.get fa)
end

