-- ==== Sys2Proof/Laws/Encoding.lean ====
section
/-! SUPPORT. The two fields of a command word, read back from the word they were put into (30_encoding.md R44). -/

namespace Sys2Proof

@[simp] theorem opOf_wordOf (op : BitVec 8) (arg : BitVec 32) : opOf (wordOf op arg) = op :=
  BitVec.extractLsb'_append_eq_left

@[simp] theorem argOf_wordOf (op : BitVec 8) (arg : BitVec 32) : argOf (wordOf op arg) = arg :=
  BitVec.extractLsb'_append_eq_right

end Sys2Proof
end

