-- ==== Sys2Proof/Laws/State.lean ====
section
/-! SUPPORT. One lemma per field of State for each shared operation, true by unfolding the operation once. -/

namespace Sys2Proof.Machine

variable (s : State)

/-! ### `State.emit` -/

@[simp] theorem State.emit_cfg (x : Transaction) : (s.emit x).cfg = s.cfg := (rfl)
@[simp] theorem State.emit_qp (x : Transaction) : (s.emit x).qp = s.qp := (rfl)
@[simp] theorem State.emit_qr (x : Transaction) : (s.emit x).qr = s.qr := (rfl)
@[simp] theorem State.emit_res (x : Transaction) : (s.emit x).res = s.res := (rfl)
@[simp] theorem State.emit_busy (x : Transaction) : (s.emit x).busy = s.busy := (rfl)
@[simp] theorem State.emit_seq (x : Transaction) : (s.emit x).seq = s.seq := (rfl)
@[simp] theorem State.emit_cmdr (x : Transaction) : (s.emit x).cmdr = s.cmdr := (rfl)
@[simp] theorem State.emit_fq (x : Transaction) : (s.emit x).fq = s.fq := (rfl)
@[simp] theorem State.emit_rb (x : Transaction) : (s.emit x).rb = s.rb := (rfl)
@[simp] theorem State.emit_iwdgSt (x : Transaction) : (s.emit x).iwdgSt = s.iwdgSt := (rfl)
@[simp] theorem State.emit_wwdgSt (x : Transaction) : (s.emit x).wwdgSt = s.wwdgSt := (rfl)
@[simp] theorem State.emit_wck (x : Transaction) : (s.emit x).wck = s.wck := (rfl)
@[simp] theorem State.emit_halt (x : Transaction) : (s.emit x).halt = s.halt := (rfl)
@[simp] theorem State.emit_fault (x : Transaction) : (s.emit x).fault = s.fault := (rfl)
@[simp] theorem State.emit_fcmd (x : Transaction) : (s.emit x).fcmd = s.fcmd := (rfl)
@[simp] theorem State.emit_rlc (x : Transaction) : (s.emit x).rlc = s.rlc := (rfl)
@[simp] theorem State.emit_pending (x : Transaction) : (s.emit x).pending = s.pending := (rfl)
@[simp] theorem State.emit_trace (x : Transaction) : (s.emit x).trace = s.trace ++ [x] := (rfl)
@[simp] theorem State.emit_earlier (x : Transaction) : (s.emit x).earlier = s.earlier := (rfl)
@[simp] theorem State.emit_env (x : Transaction) : (s.emit x).env = s.env := (rfl)
@[simp] theorem State.emit_sched (x : Transaction) : (s.emit x).sched = s.sched := (rfl)
@[simp] theorem State.emit_draws (x : Transaction) : (s.emit x).draws = s.draws := (rfl)

/-! ### `State.clkQuery` -/

@[simp] theorem State.clkQuery_cfg (dom : Domain) : (s.clkQuery dom).cfg = s.cfg := (rfl)
@[simp] theorem State.clkQuery_qp (dom : Domain) : (s.clkQuery dom).qp = s.qp := (rfl)
@[simp] theorem State.clkQuery_qr (dom : Domain) : (s.clkQuery dom).qr = s.qr := (rfl)
@[simp] theorem State.clkQuery_res (dom : Domain) : (s.clkQuery dom).res = s.res := (rfl)
@[simp] theorem State.clkQuery_busy (dom : Domain) : (s.clkQuery dom).busy = s.busy := (rfl)
@[simp] theorem State.clkQuery_seq (dom : Domain) : (s.clkQuery dom).seq = s.seq := (rfl)
@[simp] theorem State.clkQuery_cmdr (dom : Domain) : (s.clkQuery dom).cmdr = s.cmdr := (rfl)
@[simp] theorem State.clkQuery_fq (dom : Domain) : (s.clkQuery dom).fq = s.env.freq dom := (rfl)
@[simp] theorem State.clkQuery_rb (dom : Domain) : (s.clkQuery dom).rb = s.rb := (rfl)
@[simp] theorem State.clkQuery_iwdgSt (dom : Domain) : (s.clkQuery dom).iwdgSt = s.iwdgSt := (rfl)
@[simp] theorem State.clkQuery_wwdgSt (dom : Domain) : (s.clkQuery dom).wwdgSt = s.wwdgSt := (rfl)
@[simp] theorem State.clkQuery_wck (dom : Domain) : (s.clkQuery dom).wck = s.wck := (rfl)
@[simp] theorem State.clkQuery_halt (dom : Domain) : (s.clkQuery dom).halt = s.halt := (rfl)
@[simp] theorem State.clkQuery_fault (dom : Domain) : (s.clkQuery dom).fault = s.fault := (rfl)
@[simp] theorem State.clkQuery_fcmd (dom : Domain) : (s.clkQuery dom).fcmd = s.fcmd := (rfl)
@[simp] theorem State.clkQuery_rlc (dom : Domain) : (s.clkQuery dom).rlc = s.rlc := (rfl)
@[simp] theorem State.clkQuery_pending (dom : Domain) : (s.clkQuery dom).pending = s.pending := (rfl)
@[simp] theorem State.clkQuery_trace (dom : Domain) :
    (s.clkQuery dom).trace = s.trace ++ [.clkQuery dom (s.env.freq dom)] := (rfl)
@[simp] theorem State.clkQuery_earlier (dom : Domain) : (s.clkQuery dom).earlier = s.earlier := (rfl)
@[simp] theorem State.clkQuery_env (dom : Domain) : (s.clkQuery dom).env = s.env := (rfl)
@[simp] theorem State.clkQuery_sched (dom : Domain) : (s.clkQuery dom).sched = s.sched := (rfl)
@[simp] theorem State.clkQuery_draws (dom : Domain) : (s.clkQuery dom).draws = s.draws := (rfl)

/-! ### `State.memRead` -/

@[simp] theorem State.memRead_cfg (fa : Field) : (s.memRead fa).cfg = s.cfg := (rfl)
@[simp] theorem State.memRead_qp (fa : Field) : (s.memRead fa).qp = s.qp := (rfl)
@[simp] theorem State.memRead_qr (fa : Field) : (s.memRead fa).qr = s.qr := (rfl)
@[simp] theorem State.memRead_res (fa : Field) : (s.memRead fa).res = s.res := (rfl)
@[simp] theorem State.memRead_busy (fa : Field) : (s.memRead fa).busy = s.busy := (rfl)
@[simp] theorem State.memRead_seq (fa : Field) : (s.memRead fa).seq = s.seq := (rfl)
@[simp] theorem State.memRead_cmdr (fa : Field) : (s.memRead fa).cmdr = s.cmdr := (rfl)
@[simp] theorem State.memRead_fq (fa : Field) : (s.memRead fa).fq = s.fq := (rfl)
@[simp] theorem State.memRead_rb (fa : Field) : (s.memRead fa).rb = s.rb := (rfl)
@[simp] theorem State.memRead_iwdgSt (fa : Field) : (s.memRead fa).iwdgSt = s.iwdgSt := (rfl)
@[simp] theorem State.memRead_wwdgSt (fa : Field) : (s.memRead fa).wwdgSt = s.wwdgSt := (rfl)
@[simp] theorem State.memRead_wck (fa : Field) : (s.memRead fa).wck = s.wck := (rfl)
@[simp] theorem State.memRead_halt (fa : Field) : (s.memRead fa).halt = s.halt := (rfl)
@[simp] theorem State.memRead_fault (fa : Field) : (s.memRead fa).fault = s.fault := (rfl)
@[simp] theorem State.memRead_fcmd (fa : Field) : (s.memRead fa).fcmd = s.fcmd := (rfl)
@[simp] theorem State.memRead_rlc (fa : Field) : (s.memRead fa).rlc = s.rlc := (rfl)
@[simp] theorem State.memRead_pending (fa : Field) : (s.memRead fa).pending = s.pending := (rfl)
@[simp] theorem State.memRead_trace (fa : Field) :
    (s.memRead fa).trace = s.trace ++ [.memRead fa (s.fieldValue fa)] := (rfl)
@[simp] theorem State.memRead_earlier (fa : Field) : (s.memRead fa).earlier = s.earlier := (rfl)
@[simp] theorem State.memRead_env (fa : Field) : (s.memRead fa).env = s.env := (rfl)
@[simp] theorem State.memRead_sched (fa : Field) : (s.memRead fa).sched = s.sched := (rfl)
@[simp] theorem State.memRead_draws (fa : Field) : (s.memRead fa).draws = s.draws := (rfl)

/-! ### `State.memWrite` -/

@[simp] theorem State.memWrite_cfg (fa : Field) (v : BitVec fa.width) : (s.memWrite fa v).cfg = s.cfg := (rfl)
@[simp] theorem State.memWrite_qp (fa : Field) (v : BitVec fa.width) : (s.memWrite fa v).qp = s.qp := (rfl)
@[simp] theorem State.memWrite_qr (fa : Field) (v : BitVec fa.width) : (s.memWrite fa v).qr = s.qr := (rfl)
@[simp] theorem State.memWrite_res (fa : Field) (v : BitVec fa.width) : (s.memWrite fa v).res = s.res := (rfl)
@[simp] theorem State.memWrite_busy (fa : Field) (v : BitVec fa.width) : (s.memWrite fa v).busy = s.busy := (rfl)
@[simp] theorem State.memWrite_seq (fa : Field) (v : BitVec fa.width) : (s.memWrite fa v).seq = s.seq := (rfl)
@[simp] theorem State.memWrite_cmdr (fa : Field) (v : BitVec fa.width) : (s.memWrite fa v).cmdr = s.cmdr := (rfl)
@[simp] theorem State.memWrite_fq (fa : Field) (v : BitVec fa.width) : (s.memWrite fa v).fq = s.fq := (rfl)
@[simp] theorem State.memWrite_rb (fa : Field) (v : BitVec fa.width) : (s.memWrite fa v).rb = s.rb := (rfl)
@[simp] theorem State.memWrite_iwdgSt (fa : Field) (v : BitVec fa.width) :
    (s.memWrite fa v).iwdgSt = s.iwdgSt := (rfl)
@[simp] theorem State.memWrite_wwdgSt (fa : Field) (v : BitVec fa.width) :
    (s.memWrite fa v).wwdgSt = s.wwdgSt := (rfl)
@[simp] theorem State.memWrite_wck (fa : Field) (v : BitVec fa.width) : (s.memWrite fa v).wck = s.wck := (rfl)
@[simp] theorem State.memWrite_halt (fa : Field) (v : BitVec fa.width) : (s.memWrite fa v).halt = s.halt := (rfl)
@[simp] theorem State.memWrite_fault (fa : Field) (v : BitVec fa.width) : (s.memWrite fa v).fault = s.fault := (rfl)
@[simp] theorem State.memWrite_fcmd (fa : Field) (v : BitVec fa.width) : (s.memWrite fa v).fcmd = s.fcmd := (rfl)
@[simp] theorem State.memWrite_rlc (fa : Field) (v : BitVec fa.width) : (s.memWrite fa v).rlc = s.rlc := (rfl)
@[simp] theorem State.memWrite_pending (fa : Field) (v : BitVec fa.width) :
    (s.memWrite fa v).pending = s.pending := (rfl)
@[simp] theorem State.memWrite_trace (fa : Field) (v : BitVec fa.width) :
    (s.memWrite fa v).trace = s.trace ++ [.memWrite fa v] := (rfl)
@[simp] theorem State.memWrite_earlier (fa : Field) (v : BitVec fa.width) :
    (s.memWrite fa v).earlier = s.earlier := (rfl)
@[simp] theorem State.memWrite_env (fa : Field) (v : BitVec fa.width) :
    (s.memWrite fa v).env = s.env.write fa v s.draws := (rfl)
@[simp] theorem State.memWrite_sched (fa : Field) (v : BitVec fa.width) : (s.memWrite fa v).sched = s.sched := (rfl)
@[simp] theorem State.memWrite_draws (fa : Field) (v : BitVec fa.width) :
    (s.memWrite fa v).draws = s.draws + writeDraws := (rfl)

/-! ### `State.advance` -/

@[simp] theorem State.advance_cfg : s.advance.cfg = s.cfg := (rfl)
@[simp] theorem State.advance_qp : s.advance.qp = s.qp := (rfl)
@[simp] theorem State.advance_qr : s.advance.qr = s.qr := (rfl)
@[simp] theorem State.advance_res : s.advance.res = s.res := (rfl)
@[simp] theorem State.advance_busy : s.advance.busy = s.busy := (rfl)
@[simp] theorem State.advance_seq : s.advance.seq = s.seq + 1#3 := (rfl)
@[simp] theorem State.advance_cmdr : s.advance.cmdr = s.cmdr := (rfl)
@[simp] theorem State.advance_fq : s.advance.fq = s.fq := (rfl)
@[simp] theorem State.advance_rb : s.advance.rb = s.rb := (rfl)
@[simp] theorem State.advance_iwdgSt : s.advance.iwdgSt = s.iwdgSt := (rfl)
@[simp] theorem State.advance_wwdgSt : s.advance.wwdgSt = s.wwdgSt := (rfl)
@[simp] theorem State.advance_wck : s.advance.wck = s.wck := (rfl)
@[simp] theorem State.advance_halt : s.advance.halt = s.halt := (rfl)
@[simp] theorem State.advance_fault : s.advance.fault = s.fault := (rfl)
@[simp] theorem State.advance_fcmd : s.advance.fcmd = s.fcmd := (rfl)
@[simp] theorem State.advance_rlc : s.advance.rlc = s.rlc := (rfl)
@[simp] theorem State.advance_pending : s.advance.pending = s.pending := (rfl)
@[simp] theorem State.advance_trace : s.advance.trace = s.trace := (rfl)
@[simp] theorem State.advance_earlier : s.advance.earlier = s.earlier := (rfl)
@[simp] theorem State.advance_env : s.advance.env = s.env := (rfl)
@[simp] theorem State.advance_sched : s.advance.sched = s.sched := (rfl)
@[simp] theorem State.advance_draws : s.advance.draws = s.draws := (rfl)

/-! ### `State.complete` -/

@[simp] theorem State.complete_cfg : s.complete.cfg = s.cfg := (rfl)
@[simp] theorem State.complete_qp : s.complete.qp = s.qp := (rfl)
@[simp] theorem State.complete_qr : s.complete.qr = s.qr := (rfl)
@[simp] theorem State.complete_res : s.complete.res = s.res := (rfl)
@[simp] theorem State.complete_busy : s.complete.busy = false := (rfl)
@[simp] theorem State.complete_seq : s.complete.seq = 0#3 := (rfl)
@[simp] theorem State.complete_cmdr : s.complete.cmdr = s.cmdr := (rfl)
@[simp] theorem State.complete_fq : s.complete.fq = s.fq := (rfl)
@[simp] theorem State.complete_rb : s.complete.rb = s.rb := (rfl)
@[simp] theorem State.complete_iwdgSt : s.complete.iwdgSt = s.iwdgSt := (rfl)
@[simp] theorem State.complete_wwdgSt : s.complete.wwdgSt = s.wwdgSt := (rfl)
@[simp] theorem State.complete_wck : s.complete.wck = s.wck := (rfl)
@[simp] theorem State.complete_halt : s.complete.halt = s.halt := (rfl)
@[simp] theorem State.complete_fault : s.complete.fault = s.fault := (rfl)
@[simp] theorem State.complete_fcmd : s.complete.fcmd = s.fcmd := (rfl)
@[simp] theorem State.complete_rlc : s.complete.rlc = s.rlc := (rfl)
@[simp] theorem State.complete_pending : s.complete.pending = s.pending := (rfl)
@[simp] theorem State.complete_trace : s.complete.trace = s.trace := (rfl)
@[simp] theorem State.complete_earlier : s.complete.earlier = s.earlier := (rfl)
@[simp] theorem State.complete_env : s.complete.env = s.env := (rfl)
@[simp] theorem State.complete_sched : s.complete.sched = s.sched := (rfl)
@[simp] theorem State.complete_draws : s.complete.draws = s.draws := (rfl)

/-! ### `State.setPair` -/

@[simp] theorem State.setPair_cfg (x : BitVec 3 × BitVec 12) : (s.setPair x).cfg = s.cfg := (rfl)
@[simp] theorem State.setPair_qp (x : BitVec 3 × BitVec 12) : (s.setPair x).qp = x.1 := (rfl)
@[simp] theorem State.setPair_qr (x : BitVec 3 × BitVec 12) : (s.setPair x).qr = x.2 := (rfl)
@[simp] theorem State.setPair_res (x : BitVec 3 × BitVec 12) : (s.setPair x).res = s.res := (rfl)
@[simp] theorem State.setPair_busy (x : BitVec 3 × BitVec 12) : (s.setPair x).busy = s.busy := (rfl)
@[simp] theorem State.setPair_seq (x : BitVec 3 × BitVec 12) : (s.setPair x).seq = s.seq := (rfl)
@[simp] theorem State.setPair_cmdr (x : BitVec 3 × BitVec 12) : (s.setPair x).cmdr = s.cmdr := (rfl)
@[simp] theorem State.setPair_fq (x : BitVec 3 × BitVec 12) : (s.setPair x).fq = s.fq := (rfl)
@[simp] theorem State.setPair_rb (x : BitVec 3 × BitVec 12) : (s.setPair x).rb = s.rb := (rfl)
@[simp] theorem State.setPair_iwdgSt (x : BitVec 3 × BitVec 12) : (s.setPair x).iwdgSt = s.iwdgSt := (rfl)
@[simp] theorem State.setPair_wwdgSt (x : BitVec 3 × BitVec 12) : (s.setPair x).wwdgSt = s.wwdgSt := (rfl)
@[simp] theorem State.setPair_wck (x : BitVec 3 × BitVec 12) : (s.setPair x).wck = s.wck := (rfl)
@[simp] theorem State.setPair_halt (x : BitVec 3 × BitVec 12) : (s.setPair x).halt = s.halt := (rfl)
@[simp] theorem State.setPair_fault (x : BitVec 3 × BitVec 12) : (s.setPair x).fault = s.fault := (rfl)
@[simp] theorem State.setPair_fcmd (x : BitVec 3 × BitVec 12) : (s.setPair x).fcmd = s.fcmd := (rfl)
@[simp] theorem State.setPair_rlc (x : BitVec 3 × BitVec 12) : (s.setPair x).rlc = s.rlc := (rfl)
@[simp] theorem State.setPair_pending (x : BitVec 3 × BitVec 12) : (s.setPair x).pending = s.pending := (rfl)
@[simp] theorem State.setPair_trace (x : BitVec 3 × BitVec 12) : (s.setPair x).trace = s.trace := (rfl)
@[simp] theorem State.setPair_earlier (x : BitVec 3 × BitVec 12) : (s.setPair x).earlier = s.earlier := (rfl)
@[simp] theorem State.setPair_env (x : BitVec 3 × BitVec 12) : (s.setPair x).env = s.env := (rfl)
@[simp] theorem State.setPair_sched (x : BitVec 3 × BitVec 12) : (s.setPair x).sched = s.sched := (rfl)
@[simp] theorem State.setPair_draws (x : BitVec 3 × BitVec 12) : (s.setPair x).draws = s.draws := (rfl)

/-! ### `State.setIndex` -/

@[simp] theorem State.setIndex_cfg (v : BitVec 3) : (s.setIndex v).cfg = s.cfg := (rfl)
@[simp] theorem State.setIndex_qp (v : BitVec 3) : (s.setIndex v).qp = s.qp := (rfl)
@[simp] theorem State.setIndex_qr (v : BitVec 3) : (s.setIndex v).qr = s.qr := (rfl)
@[simp] theorem State.setIndex_res (v : BitVec 3) : (s.setIndex v).res = s.res := (rfl)
@[simp] theorem State.setIndex_busy (v : BitVec 3) : (s.setIndex v).busy = s.busy := (rfl)
@[simp] theorem State.setIndex_seq (v : BitVec 3) : (s.setIndex v).seq = s.seq := (rfl)
@[simp] theorem State.setIndex_cmdr (v : BitVec 3) : (s.setIndex v).cmdr = s.cmdr := (rfl)
@[simp] theorem State.setIndex_fq (v : BitVec 3) : (s.setIndex v).fq = s.fq := (rfl)
@[simp] theorem State.setIndex_rb (v : BitVec 3) : (s.setIndex v).rb = v := (rfl)
@[simp] theorem State.setIndex_iwdgSt (v : BitVec 3) : (s.setIndex v).iwdgSt = s.iwdgSt := (rfl)
@[simp] theorem State.setIndex_wwdgSt (v : BitVec 3) : (s.setIndex v).wwdgSt = s.wwdgSt := (rfl)
@[simp] theorem State.setIndex_wck (v : BitVec 3) : (s.setIndex v).wck = s.wck := (rfl)
@[simp] theorem State.setIndex_halt (v : BitVec 3) : (s.setIndex v).halt = s.halt := (rfl)
@[simp] theorem State.setIndex_fault (v : BitVec 3) : (s.setIndex v).fault = s.fault := (rfl)
@[simp] theorem State.setIndex_fcmd (v : BitVec 3) : (s.setIndex v).fcmd = s.fcmd := (rfl)
@[simp] theorem State.setIndex_rlc (v : BitVec 3) : (s.setIndex v).rlc = s.rlc := (rfl)
@[simp] theorem State.setIndex_pending (v : BitVec 3) : (s.setIndex v).pending = s.pending := (rfl)
@[simp] theorem State.setIndex_trace (v : BitVec 3) : (s.setIndex v).trace = s.trace := (rfl)
@[simp] theorem State.setIndex_earlier (v : BitVec 3) : (s.setIndex v).earlier = s.earlier := (rfl)
@[simp] theorem State.setIndex_env (v : BitVec 3) : (s.setIndex v).env = s.env := (rfl)
@[simp] theorem State.setIndex_sched (v : BitVec 3) : (s.setIndex v).sched = s.sched := (rfl)
@[simp] theorem State.setIndex_draws (v : BitVec 3) : (s.setIndex v).draws = s.draws := (rfl)

/-! ### `State.setReload` -/

@[simp] theorem State.setReload_cfg (v : BitVec 6) : (s.setReload v).cfg = s.cfg := (rfl)
@[simp] theorem State.setReload_qp (v : BitVec 6) : (s.setReload v).qp = s.qp := (rfl)
@[simp] theorem State.setReload_qr (v : BitVec 6) : (s.setReload v).qr = s.qr := (rfl)
@[simp] theorem State.setReload_res (v : BitVec 6) : (s.setReload v).res = s.res := (rfl)
@[simp] theorem State.setReload_busy (v : BitVec 6) : (s.setReload v).busy = s.busy := (rfl)
@[simp] theorem State.setReload_seq (v : BitVec 6) : (s.setReload v).seq = s.seq := (rfl)
@[simp] theorem State.setReload_cmdr (v : BitVec 6) : (s.setReload v).cmdr = s.cmdr := (rfl)
@[simp] theorem State.setReload_fq (v : BitVec 6) : (s.setReload v).fq = s.fq := (rfl)
@[simp] theorem State.setReload_rb (v : BitVec 6) : (s.setReload v).rb = s.rb := (rfl)
@[simp] theorem State.setReload_iwdgSt (v : BitVec 6) : (s.setReload v).iwdgSt = s.iwdgSt := (rfl)
@[simp] theorem State.setReload_wwdgSt (v : BitVec 6) : (s.setReload v).wwdgSt = s.wwdgSt := (rfl)
@[simp] theorem State.setReload_wck (v : BitVec 6) : (s.setReload v).wck = s.wck := (rfl)
@[simp] theorem State.setReload_halt (v : BitVec 6) : (s.setReload v).halt = s.halt := (rfl)
@[simp] theorem State.setReload_fault (v : BitVec 6) : (s.setReload v).fault = s.fault := (rfl)
@[simp] theorem State.setReload_fcmd (v : BitVec 6) : (s.setReload v).fcmd = s.fcmd := (rfl)
@[simp] theorem State.setReload_rlc (v : BitVec 6) : (s.setReload v).rlc = v := (rfl)
@[simp] theorem State.setReload_pending (v : BitVec 6) : (s.setReload v).pending = s.pending := (rfl)
@[simp] theorem State.setReload_trace (v : BitVec 6) : (s.setReload v).trace = s.trace := (rfl)
@[simp] theorem State.setReload_earlier (v : BitVec 6) : (s.setReload v).earlier = s.earlier := (rfl)
@[simp] theorem State.setReload_env (v : BitVec 6) : (s.setReload v).env = s.env := (rfl)
@[simp] theorem State.setReload_sched (v : BitVec 6) : (s.setReload v).sched = s.sched := (rfl)
@[simp] theorem State.setReload_draws (v : BitVec 6) : (s.setReload v).draws = s.draws := (rfl)

/-! ### `State.runIwdg` -/

@[simp] theorem State.runIwdg_cfg : s.runIwdg.cfg = s.cfg := (rfl)
@[simp] theorem State.runIwdg_qp : s.runIwdg.qp = s.qp := (rfl)
@[simp] theorem State.runIwdg_qr : s.runIwdg.qr = s.qr := (rfl)
@[simp] theorem State.runIwdg_res : s.runIwdg.res = s.res := (rfl)
@[simp] theorem State.runIwdg_busy : s.runIwdg.busy = s.busy := (rfl)
@[simp] theorem State.runIwdg_seq : s.runIwdg.seq = s.seq := (rfl)
@[simp] theorem State.runIwdg_cmdr : s.runIwdg.cmdr = s.cmdr := (rfl)
@[simp] theorem State.runIwdg_fq : s.runIwdg.fq = s.fq := (rfl)
@[simp] theorem State.runIwdg_rb : s.runIwdg.rb = s.rb := (rfl)
@[simp] theorem State.runIwdg_iwdgSt : s.runIwdg.iwdgSt = .running := (rfl)
@[simp] theorem State.runIwdg_wwdgSt : s.runIwdg.wwdgSt = s.wwdgSt := (rfl)
@[simp] theorem State.runIwdg_wck : s.runIwdg.wck = s.wck := (rfl)
@[simp] theorem State.runIwdg_halt : s.runIwdg.halt = s.halt := (rfl)
@[simp] theorem State.runIwdg_fault : s.runIwdg.fault = s.fault := (rfl)
@[simp] theorem State.runIwdg_fcmd : s.runIwdg.fcmd = s.fcmd := (rfl)
@[simp] theorem State.runIwdg_rlc : s.runIwdg.rlc = s.rlc := (rfl)
@[simp] theorem State.runIwdg_pending : s.runIwdg.pending = s.pending := (rfl)
@[simp] theorem State.runIwdg_trace : s.runIwdg.trace = s.trace := (rfl)
@[simp] theorem State.runIwdg_earlier : s.runIwdg.earlier = s.earlier := (rfl)
@[simp] theorem State.runIwdg_env : s.runIwdg.env = s.env := (rfl)
@[simp] theorem State.runIwdg_sched : s.runIwdg.sched = s.sched := (rfl)
@[simp] theorem State.runIwdg_draws : s.runIwdg.draws = s.draws := (rfl)

/-! ### `State.runWwdg` -/

@[simp] theorem State.runWwdg_cfg : s.runWwdg.cfg = s.cfg := (rfl)
@[simp] theorem State.runWwdg_qp : s.runWwdg.qp = s.qp := (rfl)
@[simp] theorem State.runWwdg_qr : s.runWwdg.qr = s.qr := (rfl)
@[simp] theorem State.runWwdg_res : s.runWwdg.res = s.res := (rfl)
@[simp] theorem State.runWwdg_busy : s.runWwdg.busy = s.busy := (rfl)
@[simp] theorem State.runWwdg_seq : s.runWwdg.seq = s.seq := (rfl)
@[simp] theorem State.runWwdg_cmdr : s.runWwdg.cmdr = s.cmdr := (rfl)
@[simp] theorem State.runWwdg_fq : s.runWwdg.fq = s.fq := (rfl)
@[simp] theorem State.runWwdg_rb : s.runWwdg.rb = s.rb := (rfl)
@[simp] theorem State.runWwdg_iwdgSt : s.runWwdg.iwdgSt = s.iwdgSt := (rfl)
@[simp] theorem State.runWwdg_wwdgSt : s.runWwdg.wwdgSt = .running := (rfl)
@[simp] theorem State.runWwdg_wck : s.runWwdg.wck = s.wck := (rfl)
@[simp] theorem State.runWwdg_halt : s.runWwdg.halt = s.halt := (rfl)
@[simp] theorem State.runWwdg_fault : s.runWwdg.fault = s.fault := (rfl)
@[simp] theorem State.runWwdg_fcmd : s.runWwdg.fcmd = s.fcmd := (rfl)
@[simp] theorem State.runWwdg_rlc : s.runWwdg.rlc = s.rlc := (rfl)
@[simp] theorem State.runWwdg_pending : s.runWwdg.pending = s.pending := (rfl)
@[simp] theorem State.runWwdg_trace : s.runWwdg.trace = s.trace := (rfl)
@[simp] theorem State.runWwdg_earlier : s.runWwdg.earlier = s.earlier := (rfl)
@[simp] theorem State.runWwdg_env : s.runWwdg.env = s.env := (rfl)
@[simp] theorem State.runWwdg_sched : s.runWwdg.sched = s.sched := (rfl)
@[simp] theorem State.runWwdg_draws : s.runWwdg.draws = s.draws := (rfl)

/-! ### `State.construct` -/

@[simp] theorem State.construct_cfg : s.construct.cfg = s.cfg := (rfl)
@[simp] theorem State.construct_qp : s.construct.qp = s.qp := (rfl)
@[simp] theorem State.construct_qr : s.construct.qr = s.qr := (rfl)
@[simp] theorem State.construct_res : s.construct.res = s.res := (rfl)
@[simp] theorem State.construct_busy : s.construct.busy = s.busy := (rfl)
@[simp] theorem State.construct_seq : s.construct.seq = s.seq := (rfl)
@[simp] theorem State.construct_cmdr : s.construct.cmdr = s.cmdr := (rfl)
@[simp] theorem State.construct_fq : s.construct.fq = s.fq := (rfl)
@[simp] theorem State.construct_rb : s.construct.rb = s.rb := (rfl)
@[simp] theorem State.construct_iwdgSt : s.construct.iwdgSt = s.iwdgSt := (rfl)
@[simp] theorem State.construct_wwdgSt : s.construct.wwdgSt = s.wwdgSt := (rfl)
@[simp] theorem State.construct_wck : s.construct.wck = true := (rfl)
@[simp] theorem State.construct_halt : s.construct.halt = s.halt := (rfl)
@[simp] theorem State.construct_fault : s.construct.fault = s.fault := (rfl)
@[simp] theorem State.construct_fcmd : s.construct.fcmd = s.fcmd := (rfl)
@[simp] theorem State.construct_rlc : s.construct.rlc = s.rlc := (rfl)
@[simp] theorem State.construct_pending : s.construct.pending = s.pending := (rfl)
@[simp] theorem State.construct_trace : s.construct.trace = s.trace := (rfl)
@[simp] theorem State.construct_earlier : s.construct.earlier = s.earlier := (rfl)
@[simp] theorem State.construct_env : s.construct.env = s.env := (rfl)
@[simp] theorem State.construct_sched : s.construct.sched = s.sched := (rfl)
@[simp] theorem State.construct_draws : s.construct.draws = s.draws := (rfl)

/-! ### `State.raise` -/

@[simp] theorem State.raise_cfg (code : FaultCode) : (s.raise code).cfg = s.cfg := (rfl)
@[simp] theorem State.raise_qp (code : FaultCode) : (s.raise code).qp = s.qp := (rfl)
@[simp] theorem State.raise_qr (code : FaultCode) : (s.raise code).qr = s.qr := (rfl)
@[simp] theorem State.raise_res (code : FaultCode) : (s.raise code).res = s.res := (rfl)
@[simp] theorem State.raise_busy (code : FaultCode) : (s.raise code).busy = false := (rfl)
@[simp] theorem State.raise_seq (code : FaultCode) : (s.raise code).seq = 0#3 := (rfl)
@[simp] theorem State.raise_cmdr (code : FaultCode) : (s.raise code).cmdr = s.cmdr := (rfl)
@[simp] theorem State.raise_fq (code : FaultCode) : (s.raise code).fq = s.fq := (rfl)
@[simp] theorem State.raise_rb (code : FaultCode) : (s.raise code).rb = s.rb := (rfl)
@[simp] theorem State.raise_iwdgSt (code : FaultCode) : (s.raise code).iwdgSt = s.iwdgSt := (rfl)
@[simp] theorem State.raise_wwdgSt (code : FaultCode) : (s.raise code).wwdgSt = s.wwdgSt := (rfl)
@[simp] theorem State.raise_wck (code : FaultCode) : (s.raise code).wck = s.wck := (rfl)
@[simp] theorem State.raise_halt (code : FaultCode) : (s.raise code).halt = true := (rfl)
@[simp] theorem State.raise_fault (code : FaultCode) : (s.raise code).fault = code := (rfl)
@[simp] theorem State.raise_fcmd (code : FaultCode) : (s.raise code).fcmd = s.cmdr := (rfl)
@[simp] theorem State.raise_rlc (code : FaultCode) : (s.raise code).rlc = s.rlc := (rfl)
@[simp] theorem State.raise_pending (code : FaultCode) : (s.raise code).pending = s.pending := (rfl)
@[simp] theorem State.raise_trace (code : FaultCode) : (s.raise code).trace = s.trace := (rfl)
@[simp] theorem State.raise_earlier (code : FaultCode) : (s.raise code).earlier = s.earlier := (rfl)
@[simp] theorem State.raise_env (code : FaultCode) : (s.raise code).env = s.env := (rfl)
@[simp] theorem State.raise_sched (code : FaultCode) : (s.raise code).sched = s.sched := (rfl)
@[simp] theorem State.raise_draws (code : FaultCode) : (s.raise code).draws = s.draws := (rfl)

/-! ### `State.accept` -/

@[simp] theorem State.accept_cfg (w : Command) (rest : List Command) : (s.accept w rest).cfg = s.cfg := (rfl)
@[simp] theorem State.accept_qp (w : Command) (rest : List Command) : (s.accept w rest).qp = s.qp := (rfl)
@[simp] theorem State.accept_qr (w : Command) (rest : List Command) : (s.accept w rest).qr = s.qr := (rfl)
@[simp] theorem State.accept_res (w : Command) (rest : List Command) : (s.accept w rest).res = s.res := (rfl)
@[simp] theorem State.accept_busy (w : Command) (rest : List Command) : (s.accept w rest).busy = true := (rfl)
@[simp] theorem State.accept_seq (w : Command) (rest : List Command) : (s.accept w rest).seq = 0#3 := (rfl)
@[simp] theorem State.accept_cmdr (w : Command) (rest : List Command) : (s.accept w rest).cmdr = w := (rfl)
@[simp] theorem State.accept_fq (w : Command) (rest : List Command) : (s.accept w rest).fq = s.fq := (rfl)
@[simp] theorem State.accept_rb (w : Command) (rest : List Command) : (s.accept w rest).rb = s.rb := (rfl)
@[simp] theorem State.accept_iwdgSt (w : Command) (rest : List Command) : (s.accept w rest).iwdgSt = s.iwdgSt := (rfl)
@[simp] theorem State.accept_wwdgSt (w : Command) (rest : List Command) : (s.accept w rest).wwdgSt = s.wwdgSt := (rfl)
@[simp] theorem State.accept_wck (w : Command) (rest : List Command) : (s.accept w rest).wck = s.wck := (rfl)
@[simp] theorem State.accept_halt (w : Command) (rest : List Command) : (s.accept w rest).halt = s.halt := (rfl)
@[simp] theorem State.accept_fault (w : Command) (rest : List Command) : (s.accept w rest).fault = s.fault := (rfl)
@[simp] theorem State.accept_fcmd (w : Command) (rest : List Command) : (s.accept w rest).fcmd = s.fcmd := (rfl)
@[simp] theorem State.accept_rlc (w : Command) (rest : List Command) : (s.accept w rest).rlc = s.rlc := (rfl)
@[simp] theorem State.accept_pending (w : Command) (rest : List Command) : (s.accept w rest).pending = rest := (rfl)
@[simp] theorem State.accept_trace (w : Command) (rest : List Command) : (s.accept w rest).trace = s.trace := (rfl)
@[simp] theorem State.accept_earlier (w : Command) (rest : List Command) :
    (s.accept w rest).earlier = s.earlier := (rfl)
@[simp] theorem State.accept_env (w : Command) (rest : List Command) : (s.accept w rest).env = s.env := (rfl)
@[simp] theorem State.accept_sched (w : Command) (rest : List Command) : (s.accept w rest).sched = s.sched := (rfl)
@[simp] theorem State.accept_draws (w : Command) (rest : List Command) : (s.accept w rest).draws = s.draws := (rfl)

/-! ### `State.ignoreWord` -/

@[simp] theorem State.ignoreWord_cfg : s.ignoreWord.cfg = s.cfg := (rfl)
@[simp] theorem State.ignoreWord_qp : s.ignoreWord.qp = s.qp := (rfl)
@[simp] theorem State.ignoreWord_qr : s.ignoreWord.qr = s.qr := (rfl)
@[simp] theorem State.ignoreWord_res : s.ignoreWord.res = s.res := (rfl)
@[simp] theorem State.ignoreWord_busy : s.ignoreWord.busy = s.busy := (rfl)
@[simp] theorem State.ignoreWord_seq : s.ignoreWord.seq = s.seq := (rfl)
@[simp] theorem State.ignoreWord_cmdr : s.ignoreWord.cmdr = s.cmdr := (rfl)
@[simp] theorem State.ignoreWord_fq : s.ignoreWord.fq = s.fq := (rfl)
@[simp] theorem State.ignoreWord_rb : s.ignoreWord.rb = s.rb := (rfl)
@[simp] theorem State.ignoreWord_iwdgSt : s.ignoreWord.iwdgSt = s.iwdgSt := (rfl)
@[simp] theorem State.ignoreWord_wwdgSt : s.ignoreWord.wwdgSt = s.wwdgSt := (rfl)
@[simp] theorem State.ignoreWord_wck : s.ignoreWord.wck = s.wck := (rfl)
@[simp] theorem State.ignoreWord_halt : s.ignoreWord.halt = s.halt := (rfl)
@[simp] theorem State.ignoreWord_fault : s.ignoreWord.fault = s.fault := (rfl)
@[simp] theorem State.ignoreWord_fcmd : s.ignoreWord.fcmd = s.fcmd := (rfl)
@[simp] theorem State.ignoreWord_rlc : s.ignoreWord.rlc = s.rlc := (rfl)
@[simp] theorem State.ignoreWord_pending : s.ignoreWord.pending = s.pending.tail := (rfl)
@[simp] theorem State.ignoreWord_trace : s.ignoreWord.trace = s.trace := (rfl)
@[simp] theorem State.ignoreWord_earlier : s.ignoreWord.earlier = s.earlier := (rfl)
@[simp] theorem State.ignoreWord_env : s.ignoreWord.env = s.env := (rfl)
@[simp] theorem State.ignoreWord_sched : s.ignoreWord.sched = s.sched := (rfl)
@[simp] theorem State.ignoreWord_draws : s.ignoreWord.draws = s.draws := (rfl)

/-! ### `State.queryAndQuantize` -/

@[simp] theorem State.queryAndQuantize_cfg (q : Instantiation) (d : Duration) :
    (s.queryAndQuantize q d).cfg = s.cfg := (rfl)
@[simp] theorem State.queryAndQuantize_qp (q : Instantiation) (d : Duration) :
    (s.queryAndQuantize q d).qp = (quantize q d (s.env.freq q.dom)).1 := (rfl)
@[simp] theorem State.queryAndQuantize_qr (q : Instantiation) (d : Duration) :
    (s.queryAndQuantize q d).qr = (quantize q d (s.env.freq q.dom)).2 := (rfl)
@[simp] theorem State.queryAndQuantize_res (q : Instantiation) (d : Duration) :
    (s.queryAndQuantize q d).res = s.res := (rfl)
@[simp] theorem State.queryAndQuantize_busy (q : Instantiation) (d : Duration) :
    (s.queryAndQuantize q d).busy = s.busy := (rfl)
@[simp] theorem State.queryAndQuantize_seq (q : Instantiation) (d : Duration) :
    (s.queryAndQuantize q d).seq = s.seq := (rfl)
@[simp] theorem State.queryAndQuantize_cmdr (q : Instantiation) (d : Duration) :
    (s.queryAndQuantize q d).cmdr = s.cmdr := (rfl)
@[simp] theorem State.queryAndQuantize_fq (q : Instantiation) (d : Duration) :
    (s.queryAndQuantize q d).fq = s.env.freq q.dom := (rfl)
@[simp] theorem State.queryAndQuantize_rb (q : Instantiation) (d : Duration) :
    (s.queryAndQuantize q d).rb = s.rb := (rfl)
@[simp] theorem State.queryAndQuantize_iwdgSt (q : Instantiation) (d : Duration) :
    (s.queryAndQuantize q d).iwdgSt = s.iwdgSt := (rfl)
@[simp] theorem State.queryAndQuantize_wwdgSt (q : Instantiation) (d : Duration) :
    (s.queryAndQuantize q d).wwdgSt = s.wwdgSt := (rfl)
@[simp] theorem State.queryAndQuantize_wck (q : Instantiation) (d : Duration) :
    (s.queryAndQuantize q d).wck = s.wck := (rfl)
@[simp] theorem State.queryAndQuantize_halt (q : Instantiation) (d : Duration) :
    (s.queryAndQuantize q d).halt = s.halt := (rfl)
@[simp] theorem State.queryAndQuantize_fault (q : Instantiation) (d : Duration) :
    (s.queryAndQuantize q d).fault = s.fault := (rfl)
@[simp] theorem State.queryAndQuantize_fcmd (q : Instantiation) (d : Duration) :
    (s.queryAndQuantize q d).fcmd = s.fcmd := (rfl)
@[simp] theorem State.queryAndQuantize_rlc (q : Instantiation) (d : Duration) :
    (s.queryAndQuantize q d).rlc = s.rlc := (rfl)
@[simp] theorem State.queryAndQuantize_pending (q : Instantiation) (d : Duration) :
    (s.queryAndQuantize q d).pending = s.pending := (rfl)
@[simp] theorem State.queryAndQuantize_trace (q : Instantiation) (d : Duration) :
    (s.queryAndQuantize q d).trace = s.trace ++ [.clkQuery q.dom (s.env.freq q.dom)] := (rfl)
@[simp] theorem State.queryAndQuantize_earlier (q : Instantiation) (d : Duration) :
    (s.queryAndQuantize q d).earlier = s.earlier := (rfl)
@[simp] theorem State.queryAndQuantize_env (q : Instantiation) (d : Duration) :
    (s.queryAndQuantize q d).env = s.env := (rfl)
@[simp] theorem State.queryAndQuantize_sched (q : Instantiation) (d : Duration) :
    (s.queryAndQuantize q d).sched = s.sched := (rfl)
@[simp] theorem State.queryAndQuantize_draws (q : Instantiation) (d : Duration) :
    (s.queryAndQuantize q d).draws = s.draws := (rfl)

/-! ### `State.setRes`, which reads its argument -/

@[simp] theorem State.setRes_cfg (v : Option Result) : (s.setRes v).cfg = s.cfg := by cases v <;> rfl
@[simp] theorem State.setRes_qp (v : Option Result) : (s.setRes v).qp = s.qp := by cases v <;> rfl
@[simp] theorem State.setRes_qr (v : Option Result) : (s.setRes v).qr = s.qr := by cases v <;> rfl
@[simp] theorem State.setRes_busy (v : Option Result) : (s.setRes v).busy = s.busy := by cases v <;> rfl
@[simp] theorem State.setRes_seq (v : Option Result) : (s.setRes v).seq = s.seq := by cases v <;> rfl
@[simp] theorem State.setRes_cmdr (v : Option Result) : (s.setRes v).cmdr = s.cmdr := by cases v <;> rfl
@[simp] theorem State.setRes_fq (v : Option Result) : (s.setRes v).fq = s.fq := by cases v <;> rfl
@[simp] theorem State.setRes_rb (v : Option Result) : (s.setRes v).rb = s.rb := by cases v <;> rfl
@[simp] theorem State.setRes_iwdgSt (v : Option Result) : (s.setRes v).iwdgSt = s.iwdgSt := by cases v <;> rfl
@[simp] theorem State.setRes_wwdgSt (v : Option Result) : (s.setRes v).wwdgSt = s.wwdgSt := by cases v <;> rfl
@[simp] theorem State.setRes_wck (v : Option Result) : (s.setRes v).wck = s.wck := by cases v <;> rfl
@[simp] theorem State.setRes_halt (v : Option Result) : (s.setRes v).halt = s.halt := by cases v <;> rfl
@[simp] theorem State.setRes_fault (v : Option Result) : (s.setRes v).fault = s.fault := by cases v <;> rfl
@[simp] theorem State.setRes_fcmd (v : Option Result) : (s.setRes v).fcmd = s.fcmd := by cases v <;> rfl
@[simp] theorem State.setRes_rlc (v : Option Result) : (s.setRes v).rlc = s.rlc := by cases v <;> rfl
@[simp] theorem State.setRes_pending (v : Option Result) : (s.setRes v).pending = s.pending := by cases v <;> rfl
@[simp] theorem State.setRes_trace (v : Option Result) : (s.setRes v).trace = s.trace := by cases v <;> rfl
@[simp] theorem State.setRes_earlier (v : Option Result) : (s.setRes v).earlier = s.earlier := by cases v <;> rfl
@[simp] theorem State.setRes_env (v : Option Result) : (s.setRes v).env = s.env := by cases v <;> rfl
@[simp] theorem State.setRes_sched (v : Option Result) : (s.setRes v).sched = s.sched := by cases v <;> rfl
@[simp] theorem State.setRes_some_res (v : Result) : (s.setRes (some v)).res = v := (rfl)
@[simp] theorem State.setRes_none_res : (s.setRes none).res = Config.draw 64 s.draws := (rfl)
@[simp] theorem State.setRes_some_draws (v : Result) : (s.setRes (some v)).draws = s.draws := (rfl)
@[simp] theorem State.setRes_none_draws : (s.setRes none).draws = s.draws + 1 := (rfl)

/-! ### `State.queryAndDecode` -/

@[simp] theorem State.queryAndDecode_cfg (q : Instantiation) :
    (s.queryAndDecode q).cfg = s.cfg := by simp [State.queryAndDecode]
@[simp] theorem State.queryAndDecode_qp (q : Instantiation) :
    (s.queryAndDecode q).qp = s.qp := by simp [State.queryAndDecode]
@[simp] theorem State.queryAndDecode_qr (q : Instantiation) :
    (s.queryAndDecode q).qr = s.qr := by simp [State.queryAndDecode]
@[simp] theorem State.queryAndDecode_busy (q : Instantiation) :
    (s.queryAndDecode q).busy = s.busy := by simp [State.queryAndDecode]
@[simp] theorem State.queryAndDecode_seq (q : Instantiation) :
    (s.queryAndDecode q).seq = s.seq := by simp [State.queryAndDecode]
@[simp] theorem State.queryAndDecode_cmdr (q : Instantiation) :
    (s.queryAndDecode q).cmdr = s.cmdr := by simp [State.queryAndDecode]
@[simp] theorem State.queryAndDecode_fq (q : Instantiation) :
    (s.queryAndDecode q).fq = s.env.freq q.dom := by simp [State.queryAndDecode]
@[simp] theorem State.queryAndDecode_rb (q : Instantiation) :
    (s.queryAndDecode q).rb = s.rb := by simp [State.queryAndDecode]
@[simp] theorem State.queryAndDecode_iwdgSt (q : Instantiation) :
    (s.queryAndDecode q).iwdgSt = s.iwdgSt := by simp [State.queryAndDecode]
@[simp] theorem State.queryAndDecode_wwdgSt (q : Instantiation) :
    (s.queryAndDecode q).wwdgSt = s.wwdgSt := by simp [State.queryAndDecode]
@[simp] theorem State.queryAndDecode_wck (q : Instantiation) :
    (s.queryAndDecode q).wck = s.wck := by simp [State.queryAndDecode]
@[simp] theorem State.queryAndDecode_halt (q : Instantiation) :
    (s.queryAndDecode q).halt = s.halt := by simp [State.queryAndDecode]
@[simp] theorem State.queryAndDecode_fault (q : Instantiation) :
    (s.queryAndDecode q).fault = s.fault := by simp [State.queryAndDecode]
@[simp] theorem State.queryAndDecode_fcmd (q : Instantiation) :
    (s.queryAndDecode q).fcmd = s.fcmd := by simp [State.queryAndDecode]
@[simp] theorem State.queryAndDecode_rlc (q : Instantiation) :
    (s.queryAndDecode q).rlc = s.rlc := by simp [State.queryAndDecode]
@[simp] theorem State.queryAndDecode_pending (q : Instantiation) :
    (s.queryAndDecode q).pending = s.pending := by simp [State.queryAndDecode]
@[simp] theorem State.queryAndDecode_trace (q : Instantiation) :
    (s.queryAndDecode q).trace = s.trace ++ [.clkQuery q.dom (s.env.freq q.dom)] := by simp [State.queryAndDecode]
@[simp] theorem State.queryAndDecode_earlier (q : Instantiation) :
    (s.queryAndDecode q).earlier = s.earlier := by simp [State.queryAndDecode]
@[simp] theorem State.queryAndDecode_env (q : Instantiation) :
    (s.queryAndDecode q).env = s.env := by simp [State.queryAndDecode]
@[simp] theorem State.queryAndDecode_sched (q : Instantiation) :
    (s.queryAndDecode q).sched = s.sched := by simp [State.queryAndDecode]

end Sys2Proof.Machine
end

