-- ==== Sys2Proof/Laws/Ops.lean ====
section
/-! SUPPORT. What each shared operation can do, said once: the field space, the transactions, the state checks, one
command's transaction, and one step. -/

namespace Sys2Proof.Machine

/-! ### The field space (20_memory.md R31) -/

@[simp] theorem Fields.get_set_same (m : Fields) (fa : Field) (v : BitVec fa.width) : (m.set fa v).get fa = v := by
  cases fa <;> rfl

theorem Fields.get_set_other (m : Fields) {fa fb : Field} (v : BitVec fa.width) (h : fb ≠ fa) :
    (m.set fa v).get fb = m.get fb := by
  cases fa <;> cases fb <;> first | rfl | exact absurd rfl h

@[simp] theorem Env.write_get_same (e : Env) (fa : Field) (v : BitVec fa.width) (n : Nat) :
    (e.write fa v n).fields.get fa = e.stored fa v n := Fields.get_set_same ..

theorem Env.write_get_other (e : Env) {fa fb : Field} (v : BitVec fa.width) (n : Nat) (h : fb ≠ fa) :
    (e.write fa v n).fields.get fb = e.fields.get fb := Fields.get_set_other _ _ h

@[simp] theorem Env.write_lsi (e : Env) (fa : Field) (v : BitVec fa.width) (n : Nat) : (e.write fa v n).lsi = e.lsi := (rfl)
@[simp] theorem Env.write_pclk (e : Env) (fa : Field) (v : BitVec fa.width) (n : Nat) : (e.write fa v n).pclk = e.pclk := (rfl)
@[simp] theorem Env.write_freq (e : Env) (fa : Field) (v : BitVec fa.width) (n : Nat) (dom : Domain) :
    (e.write fa v n).freq dom = e.freq dom := by cases dom <;> rfl

theorem Env.write_unlocked_of_ne_key (e : Env) {fa : Field} (v : BitVec fa.width) (n : Nat) (h : fa ≠ .key) :
    (e.write fa v n).unlocked = e.unlocked := by
  cases fa <;> first | rfl | exact absurd rfl h

theorem Env.write_counting_of_ne_key (e : Env) {fa : Field} (v : BitVec fa.width) (n : Nat) (h : fa ≠ .key) :
    (e.write fa v n).counting = e.counting := by
  cases fa <;> first | rfl | exact absurd rfl h

@[simp] theorem Env.drift_get_same (e : Env) (fa : Field) (v : BitVec fa.width) :
    (e.drift fa v).fields.get fa = e.drifted fa v := Fields.get_set_same ..

theorem Env.drift_get_other (e : Env) {fa fb : Field} (v : BitVec fa.width) (h : fb ≠ fa) :
    (e.drift fa v).fields.get fb = e.fields.get fb := Fields.get_set_other _ _ h

@[simp] theorem Env.drift_lsi (e : Env) (fa : Field) (v : BitVec fa.width) : (e.drift fa v).lsi = e.lsi := (rfl)
@[simp] theorem Env.drift_pclk (e : Env) (fa : Field) (v : BitVec fa.width) : (e.drift fa v).pclk = e.pclk := (rfl)
@[simp] theorem Env.drift_unlocked (e : Env) (fa : Field) (v : BitVec fa.width) : (e.drift fa v).unlocked = e.unlocked :=
  (rfl)
@[simp] theorem Env.drift_counting (e : Env) (fa : Field) (v : BitVec fa.width) : (e.drift fa v).counting = e.counting :=
  (rfl)

/-! ### A write back with another writer's writes inside (20_memory.md R31, R37) -/

@[simp] theorem Env.writes_lsi (ws : List FieldWrite) : ∀ (e : Env) (n : Nat), (e.writes ws n).lsi = e.lsi := by
  induction ws with
  | nil => intro e n; rfl
  | cons x xs ih => intro e n; exact (ih _ _).trans (Env.write_lsi ..)

@[simp] theorem Env.writes_pclk (ws : List FieldWrite) : ∀ (e : Env) (n : Nat), (e.writes ws n).pclk = e.pclk := by
  induction ws with
  | nil => intro e n; rfl
  | cons x xs ih => intro e n; exact (ih _ _).trans (Env.write_pclk ..)

theorem Env.restore_get (e : Env) (old : Fields) (fa fb : Field) (n : Nat) :
    (e.restore old fa n).get fb = e.restored old fa fb (n + fb.addr) := by cases fb <;> rfl

/-- With nothing changed since the read, nothing is restored. -/
@[simp] theorem Env.restore_unchanged (e : Env) (fa : Field) (n : Nat) : e.restore e.fields fa n = e.fields := by
  simp [Env.restore, Env.restored, Fields.get]

/-- With nothing changed since the read, the two halves are the one write. -/
@[simp] theorem Env.writeBack_unchanged (e : Env) (fa : Field) (v : BitVec fa.width) (n : Nat) :
    e.writeBack e.fields fa v n = e.write fa v n := by
  simp [Env.writeBack, Env.write]

@[simp] theorem Env.writeBack_get_same (e : Env) (old : Fields) (fa : Field) (v : BitVec fa.width) (n : Nat) :
    (e.writeBack old fa v n).fields.get fa = e.stored fa v n := Fields.get_set_same ..

theorem Env.writeBack_get_other (e : Env) (old : Fields) {fa fb : Field} (v : BitVec fa.width) (n : Nat) (h : fb ≠ fa) :
    (e.writeBack old fa v n).fields.get fb = e.restored old fa fb (n + writeDraws + fb.addr) :=
  (Fields.get_set_other _ _ h).trans (Env.restore_get ..)

@[simp] theorem Env.writeBack_lsi (e : Env) (old : Fields) (fa : Field) (v : BitVec fa.width) (n : Nat) :
    (e.writeBack old fa v n).lsi = e.lsi := (rfl)
@[simp] theorem Env.writeBack_pclk (e : Env) (old : Fields) (fa : Field) (v : BitVec fa.width) (n : Nat) :
    (e.writeBack old fa v n).pclk = e.pclk := (rfl)
@[simp] theorem Env.writeBack_unlocked (e : Env) (old : Fields) (fa : Field) (v : BitVec fa.width) (n : Nat) :
    (e.writeBack old fa v n).unlocked = (e.write fa v n).unlocked := (rfl)
@[simp] theorem Env.writeBack_counting (e : Env) (old : Fields) (fa : Field) (v : BitVec fa.width) (n : Nat) :
    (e.writeBack old fa v n).counting = (e.write fa v n).counting := (rfl)

/-- A step that has added a `MemWrite` to the trace has performed that register write. -/
theorem State.wroteSince_of_append {s t : State} {fa : Field} {v : BitVec fa.width}
    (h : t.trace = s.trace ++ [.memWrite fa v]) : t.wroteSince s = some ⟨fa, v⟩ := by
  simp [State.wroteSince, h]

/-- Writes that fall inside a step touch the environment and the count of the free values only. -/
theorem State.interfered_frame (t s : State) (ws : List FieldWrite) :
    t.interfered s ws = { t with env := (t.interfered s ws).env, draws := (t.interfered s ws).draws } := by
  simp only [State.interfered]; split <;> rfl

/-- Writes inside a step are writes inside its `MemWrite`, or writes after it. -/
theorem State.interfered_env (t s : State) (ws : List FieldWrite) :
    (∃ x, t.wroteSince s = some x ∧
      (t.interfered s ws).env =
        (s.env.writes ws t.draws).writeBack s.env.fields x.field x.value (t.draws + ws.length * writeDraws)) ∨
    (t.wroteSince s = none ∧ (t.interfered s ws).env = t.env.writes ws t.draws) := by
  cases h : t.wroteSince s with
  | none => exact .inr ⟨rfl, by simp [State.interfered, h]⟩
  | some x => exact .inl ⟨x, rfl, by simp only [State.interfered, h]⟩

/-! ### The trace -/

/-- The scope of a longer trace is the scope of the shorter one taken through the new transaction. -/
theorem scopeOf_append (l : List Transaction) (x : Transaction) :
    scopeOf (l ++ [x]) = (scopeOf l).bind fun c => scopeAfter c x := by
  simp [scopeOf, List.foldl_append]

/-! ### Fault entry and the checks (60_exceptions.md R91, R93, R94) -/

theorem State.ifConstructed_cases (s go : State) :
    (s.wck = true ∧ s.ifConstructed go = go) ∨ (s.wck = false ∧ s.ifConstructed go = s.raise .seqerr) := by
  cases h : s.wck <;> simp [State.ifConstructed, h]

theorem State.ifCounted_cases (s : State) :
    (s.qr ≠ 0#12 ∧ s.ifCounted = s.advance) ∨ (s.qr = 0#12 ∧ s.ifCounted = s.raise .wzero) := by
  by_cases h : s.qr = 0#12 <;> simp [State.ifCounted, h]

/-- The check keeps whatever both of its outcomes keep. -/
theorem State.ifConstructed_keeps {α : Type} (p : State → α) (s go : State) (hgo : p go = p s)
    (hraise : p (s.raise .seqerr) = p s) : p (s.ifConstructed go) = p s := by
  obtain ⟨-, h⟩ | ⟨-, h⟩ := s.ifConstructed_cases go <;> rw [h] <;> assumption

theorem State.ifCounted_keeps {α : Type} (p : State → α) (s : State) (hadv : p s.advance = p s)
    (hraise : p (s.raise .wzero) = p s) : p s.ifCounted = p s := by
  obtain ⟨-, h⟩ | ⟨-, h⟩ := s.ifCounted_cases <;> rw [h] <;> assumption

/-! ### One step: what it can do -/

/-- A step of WDGQ does one of five things (30_encoding.md R54, R55). -/
theorem wdgqStep_cases (s : State) :
    (s.halt = true ∧ wdgqStep s = .next s.ignoreWord) ∨
    (s.halt = false ∧ s.busy = true ∧ ∃ i, decode s.cfg.caps s.cmdr = .ok i ∧ wdgqStep s = exec i s) ∨
    (s.halt = false ∧ s.busy = true ∧ (∃ e, decode s.cfg.caps s.cmdr = .error e) ∧ wdgqStep s = .next (s.raise .illcmd)) ∨
    (s.halt = false ∧ s.busy = false ∧ s.pending = [] ∧ wdgqStep s = .next s) ∨
    (s.halt = false ∧ s.busy = false ∧ ∃ w rest, s.pending = w :: rest ∧ wdgqStep s = .next (s.accept w rest)) := by
  cases hh : s.halt
  · cases hb : s.busy
    · cases hp : s.pending with
      | nil => simp [wdgqStep, hh, hb, hp]
      | cons w rest => simp [wdgqStep, hh, hb, hp]
    · cases hd : decode s.cfg.caps s.cmdr with
      | ok i => simp [wdgqStep, hh, hb, hd]
      | error e => simp [wdgqStep, hh, hb, hd]
  · simp [wdgqStep, hh]

/-- A step of WDGQ with writes inside it stops where the step stops, and else goes where the step goes but for the
environment. -/
theorem wdgqStepWithin_next {ws : List FieldWrite} {s t : State} (h : wdgqStepWithin ws s = .next t) :
    ∃ u, wdgqStep s = .next u ∧ t = u.interfered s ws := by
  cases hu : wdgqStep s <;> simp only [wdgqStepWithin, hu] at h <;> cases h
  exact ⟨_, rfl, rfl⟩

/-- A step is a step of WDGQ, with the schedule moved on if WDGQ was scheduled, or the next event's effect. -/
theorem step_cases (s : State) :
    (s.sched = [] ∧ step s = wdgqStep s) ∨
    (∃ rest, s.sched = .wdgq :: rest ∧ step s = wdgqStep { s with sched := rest }) ∨
    (∃ ws rest, s.sched = .within ws :: rest ∧ step s = wdgqStepWithin ws { s with sched := rest }) ∨
    (∃ e rest, e ≠ .wdgq ∧ (∀ ws, e ≠ .within ws) ∧ s.sched = e :: rest ∧ step s = .next ({ s with sched := rest }.happen e)) := by
  cases hs : s.sched with
  | nil => simp [step, nextMove, hs]
  | cons e rest => cases e <;> simp [step, nextMove, hs]

/-- Every event but a reset leaves WDGQ's registers and its trace alone: it touches the port's words, the environment
and the counter of free values only. -/
theorem State.happen_frame (s : State) (e : Event) (h : e ≠ .reset) :
    s.happen e = { s with
      pending := (s.happen e).pending, env := (s.happen e).env, draws := (s.happen e).draws } := by
  cases e <;> first | rfl | exact absurd rfl h

end Sys2Proof.Machine
end

