-- ==== Sys2Proof/Laws/PerInstr.lean ====
section
/-! SUPPORT. Facts about every command as syntax, one lemma per constructor. -/

namespace Sys2Proof.Laws

/-- The opcode table's row of a command, by its mnemonic. -/
def rowOf (i : Instr) : Option OpcodeRow := opcodeRows.find? fun r => r.mnemonic == mnemonicOf i

/-- The word of a command is a word of that command's row (30_encoding.md R46). -/
def TableRow.Statement (i : Instr) : Prop := ∃ r, rowOf i = some r ∧ r.fits (encode i) = true

/-- `{OP, ARG}` under a mask that keeps the operation code alone. -/
theorem wordOf_and_opMask (op : BitVec 8) (arg : BitVec 32) : wordOf op arg &&& 0xFF00000000#40 = wordOf op 0#32 := by
  show (op ++ arg) &&& (0xFF#8 ++ 0#32) = op ++ 0#32
  rw [BitVec.and_append, show 0xFF#8 = BitVec.allOnes 8 from rfl, BitVec.and_allOnes, BitVec.and_zero]

theorem TableRow.qntI (d : Duration) : TableRow.Statement (.qntI d) :=
  ⟨⟨"QNT.I", 0xFF00000000#40, 0x0100000000#40⟩, by rfl, by simp [OpcodeRow.fits, encode, wordOf_and_opMask]; rfl⟩

theorem TableRow.qntW (d : Duration) : TableRow.Statement (.qntW d) :=
  ⟨⟨"QNT.W", 0xFF00000000#40, 0x0200000000#40⟩, by rfl, by simp [OpcodeRow.fits, encode, wordOf_and_opMask]; rfl⟩

theorem TableRow.decI : TableRow.Statement .decI := ⟨⟨"DEC.I", 0xFFFFFFFFFF#40, 0x0300000000#40⟩, by rfl, by rfl⟩

theorem TableRow.decW : TableRow.Statement .decW := ⟨⟨"DEC.W", 0xFFFFFFFFFF#40, 0x0400000000#40⟩, by rfl, by rfl⟩

theorem TableRow.iwStart (d : Duration) : TableRow.Statement (.iwStart d) :=
  ⟨⟨"IW.START", 0xFF00000000#40, 0x1000000000#40⟩, by rfl, by simp [OpcodeRow.fits, encode, wordOf_and_opMask]; rfl⟩

theorem TableRow.iwFeed : TableRow.Statement .iwFeed := ⟨⟨"IW.FEED", 0xFFFFFFFFFF#40, 0x1100000000#40⟩, by rfl, by rfl⟩

theorem TableRow.iwIval : TableRow.Statement .iwIval := ⟨⟨"IW.IVAL", 0xFFFFFFFFFF#40, 0x1200000000#40⟩, by rfl, by rfl⟩

theorem TableRow.iwDbg (stop : Bool) : TableRow.Statement (.iwDbg stop) :=
  ⟨⟨"IW.DBG", 0xFFFFFFFFFE#40, 0x1300000000#40⟩, by rfl, by cases stop <;> rfl⟩

theorem TableRow.wwNew : TableRow.Statement .wwNew := ⟨⟨"WW.NEW", 0xFFFFFFFFFF#40, 0x2000000000#40⟩, by rfl, by rfl⟩

theorem TableRow.wwSetwin (d : Duration) : TableRow.Statement (.wwSetwin d) :=
  ⟨⟨"WW.SETWIN", 0xFF00000000#40, 0x2100000000#40⟩, by rfl, by simp [OpcodeRow.fits, encode, wordOf_and_opMask]; rfl⟩

theorem TableRow.wwStart (d : Duration) : TableRow.Statement (.wwStart d) :=
  ⟨⟨"WW.START", 0xFF00000000#40, 0x2200000000#40⟩, by rfl, by simp [OpcodeRow.fits, encode, wordOf_and_opMask]; rfl⟩

theorem TableRow.wwFeed : TableRow.Statement .wwFeed := ⟨⟨"WW.FEED", 0xFFFFFFFFFF#40, 0x2300000000#40⟩, by rfl, by rfl⟩

theorem TableRow.wwIval : TableRow.Statement .wwIval := ⟨⟨"WW.IVAL", 0xFFFFFFFFFF#40, 0x2400000000#40⟩, by rfl, by rfl⟩

theorem TableRow.wwEwi (enabled : Bool) : TableRow.Statement (.wwEwi enabled) :=
  ⟨⟨"WW.EWI", 0xFFFFFFFFFE#40, 0x2500000000#40⟩, by rfl, by cases enabled <;> rfl⟩

end Sys2Proof.Laws
end

