-- ==== Sys2Proof/Laws/Step.lean ====
section
/-! SUPPORT. What every command's transaction keeps, what a step can leave, and runs of several steps. -/

namespace Sys2Proof.Machine

/-- No command's transaction touches the port's words, the parameters, the schedule, the word in progress or the
transactions of before the last reset. -/
theorem exec_keeps {i : Instr} {s t : State} (h : exec i s = .next t) :
    t.pending = s.pending ∧ t.cfg = s.cfg ∧ t.earlier = s.earlier ∧ t.sched = s.sched ∧ t.cmdr = s.cmdr := by
  cases i <;>
    simp only [exec, execQntI, execQntW, execDecI, execDecW, execIwStart, execIwFeed, execIwIval, execIwDbg, execWwNew,
      execWwSetwin, execWwStart, execWwFeed, execWwIval, execWwEwi] at h <;>
    split at h <;> cases h <;>
    simp [State.ifConstructed_keeps State.pending, State.ifConstructed_keeps State.cfg,
      State.ifConstructed_keeps State.earlier, State.ifConstructed_keeps State.sched,
      State.ifConstructed_keeps State.cmdr, State.ifCounted_keeps State.pending, State.ifCounted_keeps State.cfg,
      State.ifCounted_keeps State.earlier, State.ifCounted_keeps State.sched, State.ifCounted_keeps State.cmdr]

/-- A command's transaction leaves the environment as it was or writes one field of it. -/
theorem exec_env {i : Instr} {s t : State} (h : exec i s = .next t) :
    t.env = s.env ∨ ∃ (fa : Field) (v : BitVec fa.width), t.env = s.env.write fa v s.draws := by
  have checked : ∀ go : State, (go.env = s.env ∨ ∃ (fa : Field) (v : BitVec fa.width), go.env = s.env.write fa v s.draws) →
      (s.ifConstructed go).env = s.env ∨
        ∃ (fa : Field) (v : BitVec fa.width), (s.ifConstructed go).env = s.env.write fa v s.draws := by
    intro go hgo
    obtain ⟨-, e⟩ | ⟨-, e⟩ := s.ifConstructed_cases go <;> rw [e]
    · exact hgo
    · exact .inl rfl
  cases i <;>
    simp only [exec, execQntI, execQntW, execDecI, execDecW, execIwStart, execIwFeed, execIwIval, execIwDbg, execWwNew,
      execWwSetwin, execWwStart, execWwFeed, execWwIval, execWwEwi] at h <;>
    split at h <;> cases h <;>
    first
    | exact .inl rfl
    | exact .inr ⟨_, _, rfl⟩
    | exact checked _ (.inl rfl)
    | exact checked _ (.inr ⟨_, _, rfl⟩)
    | exact checked _ (.inl (State.ifCounted_keeps State.env _ rfl rfl))
    | exact .inl (by simp)

/-- A command's rule lists as many transactions as `transactions` counts. -/
@[simp] theorem listed_length (i : Instr) (s : State) : (listed i s).length = transactions i := by cases i <;> rfl

/-- `SEQ` names a transaction exactly up to the command's last one. -/
theorem named_isSome_iff (i : Instr) (s : State) : (named i s).isSome ↔ s.seq.toNat < transactions i := by
  simp [named]

/-- What a step of WDGQ leaves: it performs a transaction of the command in progress, refuses an illegal word, accepts a
word, or leaves WDGQ's registers and trace alone. -/
theorem wdgqStep_leaves {s t : State} (h : wdgqStep s = .next t) :
    (s.halt = false ∧ s.busy = true ∧ ∃ i, decode s.cfg.caps s.cmdr = .ok i ∧ exec i s = .next t) ∨
    (s.halt = false ∧ s.busy = true ∧ (∃ e, decode s.cfg.caps s.cmdr = .error e) ∧ t = s.raise .illcmd) ∨
    (s.halt = false ∧ s.busy = false ∧ ∃ w rest, t = s.accept w rest) ∨
    (∃ p, t = { s with pending := p }) := by
  obtain ⟨_, g⟩ | ⟨a, b, i, c, g⟩ | ⟨a, b, c, g⟩ | ⟨a, b, c, g⟩ | ⟨a, b, w, r, c, g⟩ := wdgqStep_cases s <;> rw [g] at h
  · cases h; exact .inr (.inr (.inr ⟨_, rfl⟩))
  · exact .inl ⟨a, b, i, c, h⟩
  · cases h; exact .inr (.inl ⟨a, b, c, rfl⟩)
  · cases h; exact .inr (.inr (.inr ⟨_, rfl⟩))
  · cases h; exact .inr (.inr (.inl ⟨a, b, _, _, rfl⟩))

/-- WDGQ's turn, with the schedule moved on: its own step, with or without another writer's writes inside it. -/
theorem step_turn {s t : State} (h : step s = .next t) (ht : wdgqTurn s = true) :
    ∃ (q : List Event) (u : State), wdgqStep { s with sched := q } = .next u ∧
      (t = u ∨ ∃ ws rest, s.sched = .within ws :: rest ∧ t = u.interfered { s with sched := q } ws) := by
  obtain ⟨_, h'⟩ | ⟨rest, _, h'⟩ | ⟨ws, rest, hs, h'⟩ | ⟨e, rest, he, hw, hs, h'⟩ := step_cases s <;> rw [h'] at h
  · exact ⟨s.sched, t, h, .inl rfl⟩
  · exact ⟨rest, t, h, .inl rfl⟩
  · obtain ⟨u, hu, rfl⟩ := wdgqStepWithin_next h
    exact ⟨rest, u, hu, .inr ⟨ws, rest, hs, rfl⟩⟩
  · rw [wdgqTurn, hs] at ht
    cases e <;> first | exact absurd rfl he | exact absurd rfl (hw _) | cases ht

/-- A step that is no reset does one of four things: it performs a transaction of the command in progress, refuses an
illegal word, accepts a word, or leaves WDGQ's registers and trace alone; and another writer's writes inside it touch the
environment and the count of the free values only. -/
theorem step_leaves {s t : State} (h : step s = .next t) (hr : resetTurn s = false) :
    (∃ s0 i u, s0 = { s with sched := s0.sched } ∧ running s = some i ∧ s.halt = false ∧ s.busy = true ∧
      wdgqTurn s = true ∧ decode s.cfg.caps s.cmdr = .ok i ∧ exec i s0 = .next u ∧
      (t = u ∨ ∃ ws, t = u.interfered s0 ws)) ∨
    (s.halt = false ∧ s.busy = true ∧ wdgqTurn s = true ∧ (∃ e, decode s.cfg.caps s.cmdr = .error e) ∧
      ∃ e n q, t = { s.raise .illcmd with env := e, draws := n, sched := q }) ∨
    (s.halt = false ∧ s.busy = false ∧
      ∃ w rest e n q, t = { s.accept w rest with env := e, draws := n, sched := q }) ∨
    (∃ p e n q, t = { s with pending := p, env := e, draws := n, sched := q }) := by
  cases ht : wdgqTurn s
  · obtain ⟨hs, _⟩ | ⟨rest, hs, _⟩ | ⟨ws, rest, hs, _⟩ | ⟨e, rest, he, hw, hs, h'⟩ := step_cases s
    · simp [wdgqTurn, hs] at ht
    · simp [wdgqTurn, hs] at ht
    · simp [wdgqTurn, hs] at ht
    · rw [h'] at h
      cases h
      have hne : e ≠ .reset := fun hc => by simp [resetTurn, hs, hc] at hr
      rw [State.happen_frame _ e hne]
      exact .inr (.inr (.inr ⟨_, _, _, _, rfl⟩))
  · obtain ⟨q, u, hu, hut⟩ := step_turn h ht
    have hframe : t = { u with env := t.env, draws := t.draws } := by
      obtain rfl | ⟨ws, _, _, rfl⟩ := hut
      · rfl
      · exact State.interfered_frame ..
    obtain ⟨a, b, i, c, g⟩ | ⟨a, b, c, rfl⟩ | ⟨a, b, w, r, rfl⟩ | ⟨p, rfl⟩ := wdgqStep_leaves hu
    · simp only at a b c
      refine .inl ⟨_, i, u, rfl, by simp [running, ht, a, b, c], a, b, rfl, c, g, ?_⟩
      exact hut.imp_right fun ⟨ws, _, _, e⟩ => ⟨ws, e⟩
    · exact .inr (.inl ⟨a, b, rfl, c, _, _, _, hframe⟩)
    · exact .inr (.inr (.inl ⟨a, b, _, _, _, _, _, hframe⟩))
    · exact .inr (.inr (.inr ⟨_, _, _, _, hframe⟩))

/-- A reset is the next event exactly when `resetTurn` says so. -/
theorem resetTurn_iff (s : State) : resetTurn s = true ↔ ∃ rest, s.sched = .reset :: rest := by
  cases hs : s.sched with
  | nil => simp [resetTurn, hs]
  | cons e rest => cases e <;> simp [resetTurn, hs]

/-! ### Runs -/

@[simp] theorem steps_zero (s : State) : steps 0 s = .next s := (rfl)

theorem steps_succ {k : Nat} {s t : State} (h : step s = .next t) : steps (k + 1) s = steps k t := by
  simp [steps, h]

/-- With nothing scheduled an idle block that is not halted accepts the oldest presented word. -/
theorem step_accepts {s : State} {w : Command} {rest : List Command} (hs : s.sched = []) (hh : s.halt = false)
    (hb : s.busy = false) (hp : s.pending = w :: rest) : step s = .next (s.accept w rest) := by
  simp [step, nextMove, wdgqStep, hs, hh, hb, hp]

end Sys2Proof.Machine
end

