-- ==== Sys2Proof/Tests/Slice0.lean ====
section
/-! SUPPORT. Tests of single steps and of words, with the expected results of spec/95_test_vectors.md, and for every
statement of Certificates/Slice0/Obligations.lean with hypotheses a witness that meets them. -/

namespace Sys2Proof.Tests

open Sys2Proof Sys2Proof.Machine

/-- What is seen of the next state, if there is one. -/
def seen {α : Type} (o : Host.Outcome State Fault Refusal) (p : State → α) : Option α :=
  match o with
  | .next t => some (p t)
  | .fault _ => none
  | .refused _ => none

/-- An environment with LSI at 32000 Hz, PCLK at 1000000 Hz, `pr` = 3, `rl` = 0xFA0, an open gate and open locks. -/
def world : Env :=
  { lsi := 32000#32
    pclk := 1000000#32
    fields :=
      { key := 0#16, pr := 3#3, rl := 0xFA0#12, t := 0#7, wdga := 1#1, w := 9#7, wdgtb := 0#3, ewi := 0#1,
        clkgate := 1#1, dbgfrz := 0#1, irqmask := 0#1 }
    unlocked := true
    counting := true }

/-- An idle, constructed block in that environment, with `RLC` = 12 (as after V-W5). -/
def idle : State :=
  { cfg := Config.default, qp := 3#3, qr := 4000#12, res := 5#64, busy := false, seq := 0#3, cmdr := 0#40, fq := 32000#32
    rb := 3#3, iwdgSt := .unstarted, wwdgSt := .unstarted, wck := true, halt := false, fault := .none, fcmd := 0#40
    rlc := 12#6, pending := [], trace := [], earlier := [], env := world, sched := [], draws := 0 }

/-- The command `i` in progress, at transaction `k`, with `f` latched. -/
def at_ (i : Instr) (k : BitVec 3) (f : Freq) : State := { idle with busy := true, seq := k, cmdr := encode i, fq := f }

/-- The word `w` in progress, no transaction performed. -/
def word (w : Command) : State := { idle with busy := true, cmdr := w }

/-- The command `i` presented to the idle block. -/
def asked (i : Instr) : State := { idle with pending := [encode i] }

/-- The idle block with the window watchdog not constructed. -/
def unconstructed (i : Instr) : State := { at_ i 0#3 0#32 with wck := false }

/-- The block halted by `WZERO`, with another word presented. -/
def halted : State := { idle with halt := true, fault := .wzero, fcmd := 0x2100000FFF#40, pending := [0x1100000000#40] }

/-- The idle block with other clocks. -/
def clocked (lsi pclk : Freq) (s : State) : State := { s with env := { s.env with lsi := lsi, pclk := pclk } }

/-! ### Well-formedness (30_encoding.md R50) -/

theorem test_wellformed_iwDbg_needs_cap : WellFormed { dbg := false, irq := true } (.iwDbg true) = false := by decide
theorem test_wellformed_wwEwi_needs_cap : WellFormed { dbg := true, irq := false } (.wwEwi true) = false := by decide
theorem test_wellformed_caps : WellFormed Caps.both (.iwDbg true) = true ∧ WellFormed Caps.both (.wwEwi true) = true := by
  decide

/-! ### Decode: one word per constructor (V-E1 to V-E15) -/

theorem test_decode_qntI : decode Caps.both 0x0100000FA0#40 = .ok (.qntI 4000#32) := by decide
theorem test_decode_qntW : decode Caps.both 0x0200001400#40 = .ok (.qntW 5120#32) := by decide
theorem test_decode_decI : decode Caps.both 0x0300000000#40 = .ok .decI := by decide
theorem test_decode_decW : decode Caps.both 0x0400000000#40 = .ok .decW := by decide
theorem test_decode_iwStart : decode Caps.both 0x10FFFFFFFF#40 = .ok (.iwStart 4294967295#32) := by decide
theorem test_decode_iwFeed : decode Caps.both 0x1100000000#40 = .ok .iwFeed := by decide
theorem test_decode_iwIval : decode Caps.both 0x1200000000#40 = .ok .iwIval := by decide
theorem test_decode_iwDbg : decode Caps.both 0x1300000001#40 = .ok (.iwDbg true) := by decide
theorem test_decode_wwNew : decode Caps.both 0x2000000000#40 = .ok .wwNew := by decide
theorem test_decode_wwSetwin : decode Caps.both 0x2100001400#40 = .ok (.wwSetwin 5120#32) := by decide
theorem test_decode_wwStart : decode Caps.both 0x220000C350#40 = .ok (.wwStart 50000#32) := by decide
theorem test_decode_wwFeed : decode Caps.both 0x2300000000#40 = .ok .wwFeed := by decide
theorem test_decode_wwIval : decode Caps.both 0x2400000000#40 = .ok .wwIval := by decide
theorem test_decode_wwEwi : decode Caps.both 0x2500000000#40 = .ok (.wwEwi false) := by decide

/-- V-E16. -/
theorem test_decode_op00 : decode Caps.both 0x0000000000#40 = .error .unassignedOp := by decide
/-- V-E17. -/
theorem test_decode_op05 : decode Caps.both 0x0500000000#40 = .error .unassignedOp := by decide
/-- V-E18. -/
theorem test_decode_op14 : decode Caps.both 0x1400000000#40 = .error .unassignedOp := by decide
/-- V-E19. -/
theorem test_decode_op26 : decode Caps.both 0x2600000000#40 = .error .unassignedOp := by decide
/-- V-E20. -/
theorem test_decode_opFF : decode Caps.both 0xFF00000000#40 = .error .unassignedOp := by decide
/-- V-E21. -/
theorem test_decode_formN_reserved : decode Caps.both 0x1100000001#40 = .error .reservedBits := by decide
/-- V-E22. -/
theorem test_decode_formB_reserved : decode Caps.both 0x1300000002#40 = .error .reservedBits := by decide
/-- V-E23. -/
theorem test_decode_formB_top_reserved : decode Caps.both 0x2580000001#40 = .error .reservedBits := by decide

/-- V-E24, V-E25: an absent capability, also where a reserved bit is set. -/
theorem test_decode_absent :
    decode { dbg := false, irq := true } 0x1300000001#40 = .error .capabilityAbsent ∧
    decode { dbg := true, irq := false } 0x2500000003#40 = .error .capabilityAbsent := by decide

theorem test_decodeTableWord : decodeTableWord 40 0x220000C350 = some (.wwStart 50000#32) ∧
    decodeTableWord 40 0x1100000001 = none := by decide

/-- The assembler's text of V-E1, V-E6, V-E9, V-E10, and texts out of its range (30_encoding.md R52). -/
theorem test_assemble :
    assemble "QNT.I" ['4', '0', '0', '0'] = some (.qntI 4000#32) ∧
    assemble "IW.START" ['0', 'x', 'F', 'F', 'F', 'F', 'F', 'F', 'F', 'f'] = some (.iwStart 4294967295#32) ∧
    assemble "IW.DBG" ['1'] = some (.iwDbg true) ∧ assemble "IW.DBG" ['2'] = none ∧
    assemble "WW.NEW" [] = some .wwNew ∧ assemble "WW.NEW" ['0'] = none ∧
    assemble "QNT.W" ['4', '2', '9', '4', '9', '6', '7', '2', '9', '6'] = none := by decide

/-! ### The quantizer and the decode (95_test_vectors.md 2.1 to 2.3) -/

/-- V-Q5, V-Q7, V-Q11, V-Q19. -/
theorem test_quantize_iwdg :
    quantize instI 1#32 4000#32 = (0#3, 1#12) ∧ quantize instI 512#32 32000#32 = (1#3, 0x800#12) ∧
    quantize instI 32768#32 32000#32 = (6#3, 0xFFF#12) ∧
    quantize instI 4294967295#32 4294967295#32 = (6#3, 0xFFF#12) := by decide

/-- V-Q24, V-Q25, V-Q29, V-Q31. -/
theorem test_quantize_wwdg :
    quantize (instW Config.default) 258048#32 1000000#32 = (0#3, 63#12) ∧
    quantize (instW Config.default) 262144#32 1000000#32 = (1#3, 32#12) ∧
    quantize (instW Config.default) 33554432#32 1000000#32 = (7#3, 63#12) ∧
    quantize (instW { Config.default with pmaxW := 3#3 }) 40000000#32 1000000#32 = (3#3, 63#12) := by decide

/-- V-Q8, V-Q13, V-Q27. -/
theorem test_decodeUs :
    decodeUs instI 6#3 0xFFF#12 32#32 = 32760000000#64 ∧ decodeUs instI 2#3 2048#12 32768#32 = 999424#64 ∧
    decodeUs (instW Config.default) 4#3 36#12 48000000#32 = 49140#64 := by decide

/-! ### One step of each command -/

/-- V-Q7. -/
theorem test_qntI : seen (step (at_ (.qntI 512#32) 0#3 0#32)) (fun t => (t.qp, t.qr, t.busy, t.trace)) =
    some (1#3, 0x800#12, false, [.clkQuery .lsi 32000#32]) := by decide

/-- V-F9: no fault, and `WCK` is not needed. -/
theorem test_qntW_zero_count : seen (step (unconstructed (.qntW 4095#32))) (fun t => (t.qp, t.qr, t.halt, t.trace)) =
    some (0#3, 0#12, false, [.clkQuery .pclk 1000000#32]) := by decide

/-- V-D1. -/
theorem test_decI : seen (step (at_ .decI 0#3 0#32)) (fun t => t.res) = some 4000000#64 := by decide

/-- V-D6: a zero frequency draws. -/
theorem test_decI_draws : seen (step (clocked 0#32 0#32 (at_ .decI 0#3 0#32))) (fun t => (t.draws, t.busy)) =
    some (1, false) := by decide

/-- V-D5. -/
theorem test_decW : seen (step (at_ .decW 0#3 0#32)) (fun t => t.res) = some 131072000#64 := by decide

/-- V-I1, transaction [3]: the reload after the index. -/
theorem test_iwStart_reload : seen (step (at_ (.iwStart 4000#32) 3#3 32000#32)) (fun t => (t.trace, t.seq, t.env.fields.rl)) =
    some ([.memWrite .rl 0xFA0#12], 4#3, 0xFA0#12) := by decide

/-- V-I1, transaction [5]: the start key completes the command. -/
theorem test_iwStart_last : seen (step (at_ (.iwStart 4000#32) 5#3 32000#32)) (fun t => (t.trace, t.iwdgSt, t.busy)) =
    some ([.memWrite .key 0xCCCC#16], .running, false) := by decide

/-- V-I5: a feed in `Unstarted`. -/
theorem test_iwFeed : seen (step (at_ .iwFeed 0#3 0#32)) (fun t => (t.trace, t.iwdgSt, t.env.unlocked)) =
    some ([.memWrite .key 0xAAAA#16], .unstarted, false) := by decide

/-- V-I7: milliseconds. -/
theorem test_iwIval : seen (step (at_ .iwIval 2#3 32000#32)) (fun t => (t.res, t.trace)) =
    some (4000#64, [.memRead .rl 0xFA0#12]) := by decide

/-- V-I11. -/
theorem test_iwDbg : seen (step (at_ (.iwDbg true) 0#3 0#32)) (fun t => (t.trace, t.busy)) =
    some ([.memWrite .dbgfrz 1#1], false) := by decide

/-- V-W1. -/
theorem test_wwNew : seen (step (unconstructed .wwNew)) (fun t => (t.wck, t.trace)) =
    some (true, [.memWrite .clkgate 1#1]) := by decide

/-- V-W4, transaction [2]: `W_OR` sets the top bit. -/
theorem test_wwSetwin_window :
    seen (step { at_ (.wwSetwin 5120#32) 2#3 1000000#32 with cfg := { Config.default with wOr := 0x40#7 } })
      (fun t => (t.trace, t.rlc)) = some ([.memWrite .w 0x41#7], 12#6) := by decide

/-- V-F1: after the query, before any write. -/
theorem test_wwSetwin_wzero : seen (step (at_ (.wwSetwin 4095#32) 0#3 0#32))
    (fun t => (t.trace, t.qr, t.fault, t.fcmd)) =
    some ([.clkQuery .pclk 1000000#32], 0#12, .wzero, 0x2100000FFF#40) := by decide

/-- V-W6, transaction [2]: the cache holds the count without `T_OR`. -/
theorem test_wwStart_feed :
    seen (step { at_ (.wwStart 50000#32) 2#3 1000000#32 with cfg := { Config.default with tOr := 0x40#7 } })
      (fun t => (t.trace, t.rlc)) = some ([.memWrite .t 0x4C#7], 12#6) := by decide

/-- V-W12, transaction [1]: saturated, the count cached. -/
theorem test_wwStart_caches : seen (step (at_ (.wwStart 40000000#32) 1#3 1000000#32)) (fun t => (t.trace, t.rlc, t.seq)) =
    some ([.memWrite .wdgtb 7#3], 63#6, 2#3) := by decide

/-- V-W7. -/
theorem test_wwFeed : seen (step (at_ .wwFeed 0#3 0#32)) (fun t => (t.trace, t.busy)) =
    some ([.memWrite .t 0x0C#7], false) := by decide

/-- V-F4. -/
theorem test_wwFeed_seqerr : seen (step (unconstructed .wwFeed)) (fun t => (t.trace, t.fault, t.fcmd)) =
    some ([], .seqerr, 0x2300000000#40) := by decide

/-- V-W9. -/
theorem test_wwIval : seen (step (at_ .wwIval 1#3 1000000#32)) (fun t => (t.res, t.trace)) =
    some (49152#64, [.memRead .wdgtb 0#3]) := by decide

/-- V-W13, transaction [1]. -/
theorem test_wwEwi : seen (step (at_ (.wwEwi true) 1#3 0#32)) (fun t => (t.trace, t.busy)) =
    some ([.memWrite .irqmask 1#1], false) := by decide

/-- V-F6: decode comes before the state check. -/
theorem test_wwEwi_illegal_first :
    seen (step { unconstructed (.wwEwi true) with cfg := { Config.default with caps := { dbg := true, irq := false } } })
      (fun t => (t.trace, t.fault)) = some ([], .illcmd) := by decide

/-- V-F7 and V-F8. -/
theorem test_illegal_word : seen (step (word 0#40)) (fun t => (t.fault, t.fcmd, t.trace)) = some (.illcmd, 0#40, []) := by
  decide
theorem test_halted_ignores : seen (step halted) (fun t => (t.fault, t.fcmd, t.pending, t.trace)) =
    some (.wzero, 0x2100000FFF#40, [], []) := by decide

/-- The port accepts the oldest word first (30_encoding.md R54, R55). -/
theorem test_accept : seen (step { idle with pending := [encode .iwFeed, encode .decI] })
    (fun t => (t.cmdr, t.busy, t.pending)) = some (0x1100000000#40, true, [0x0300000000#40]) := by decide

/-- 10_state.md R20: a halted block with `WCK` = 1 reads 0x12, its fault register 1. -/
theorem test_status : statusRead halted 0 = 0x12#64 ∧ statusRead halted 1 = 1#64 ∧ statusRead halted 4 = 3#64 := by decide

/-- The reset state is ready, and the very first step runs a fetched command. -/
theorem test_fetch : State.reset.ready = true ∧
    seen (step (State.reset.withFetchWord 40 0x1100000000)) (fun t => t.trace) = some [.memWrite .key 0xAAAA#16] := by
  decide

/-- 20_memory.md R41: neither a write of an intruder nor the environment itself undoes `wdga`. -/
theorem test_wdga_cannot_be_undone :
    seen (step { idle with sched := [.drift .wdga 0#1] }) (fun t => t.env.fields.wdga) = some 1#1 ∧
    seen (step { idle with sched := [.intrude .wdga 0#1] }) (fun t => t.env.fields.wdga) = some 1#1 := by decide

/-- The environment's own change of another field: a counter that has run down. -/
theorem test_drift_counter : seen (step { idle with sched := [.drift .t 5#7] }) (fun t => (t.env.fields.t, t.trace)) =
    some (5#7, []) := by decide

/-- 20_memory.md R37: an intruder's `wdgtb` and `irqmask` inside the read-modify-write of `w` (`WW.SETWIN` [2]). Both are in
the trace of nobody; `wdgtb`, in the same register, is lost, and `irqmask`, in another, is not. -/
theorem test_intruder_inside_the_write :
    seen (step { at_ (.wwSetwin 5120#32) 2#3 1000000#32 with sched := [.within [⟨.wdgtb, 5#3⟩, ⟨.irqmask, 1#1⟩]] })
      (fun t => (t.env.fields.w, t.env.fields.wdgtb, t.env.fields.irqmask, t.trace)) =
    some (1#7, 0#3, 1#1, [.memWrite .w 1#7]) := by decide

/-- The same write between two transactions stays. -/
theorem test_intruder_between_the_writes :
    (match step { at_ (.wwSetwin 5120#32) 2#3 1000000#32 with sched := [.intrude .wdgtb 5#3] } with
      | .next s => seen (step s) (fun t => (t.env.fields.w, t.env.fields.wdgtb))
      | .fault _ => none
      | .refused _ => none) = some (1#7, 5#3) := by decide

/-! ### Witnesses: the hypotheses of each statement can be met -/

theorem witness_ResetAbandonsTheCommandInProgress :
    { at_ (.iwStart 4000#32) 3#3 32000#32 with sched := [.reset] }.sched = Event.reset :: [] ∧
    seen (step { at_ (.iwStart 4000#32) 3#3 32000#32 with sched := [.reset] }) (fun t => t.ready) = some true := by decide

theorem witness_StepRunsTheDecodedCommand :
    (let s := at_ (.iwDbg true) 0#3 0#32
     s.halt = false ∧ s.busy = true ∧ decode s.cfg.caps s.cmdr = .ok (.iwDbg true) ∧ s.sched = []) ∧
    (let s := { at_ .decI 0#3 0#32 with sched := [.wdgq, .reset] }
     s.halt = false ∧ s.busy = true ∧ decode s.cfg.caps s.cmdr = .ok .decI ∧ s.sched = Event.wdgq :: [.reset]) ∧
    (let s := { at_ .iwFeed 0#3 0#32 with sched := [.within [⟨.key, 0x5555#16⟩]] }
     s.halt = false ∧ s.busy = true ∧ decode s.cfg.caps s.cmdr = .ok .iwFeed ∧
       seen (exec .iwFeed { s with sched := [] }) (fun t => t.busy) = some false) ∧
    WellFormed idle.cfg.caps (.wwEwi true) = true := by decide

theorem witness_CommandPortHandshake :
    (asked .iwFeed).ready = true ∧ (asked .iwFeed).pending = encode .iwFeed :: [] ∧
    idle.ready = true ∧ idle.pending = [] ∧
    (let s := { at_ .iwFeed 0#3 0#32 with pending := [encode .decI] }
     s.busy = true ∧ s.halt = false ∧ seen (wdgqStep s) (fun t => t.pending) = some [encode .decI]) := by decide

theorem witness_HaltedBlockChangesNothing : halted.halt = true ∧ resetTurn halted = false := by decide

theorem witness_IllegalWordsRaiseIllcmd :
    (let s := word 0x1300000002#40
     s.halt = false ∧ s.busy = true ∧ decode s.cfg.caps s.cmdr = .error .reservedBits) := by decide

theorem witness_UnconstructedControllerRaisesSeqerr :
    (let s := unconstructed (.wwEwi true)
     needsWck (.wwEwi true) = true ∧ s.wck = false ∧ s.seq = 0#3) ∧
    needsWck .wwNew = false ∧ seen (exec .wwNew (unconstructed .wwNew)) (fun t => t.halt) = some false ∧
    (at_ (.wwSetwin 4096#32) 1#3 1000000#32).seq ≠ 0#3 ∧
    seen (exec (.wwSetwin 4096#32) (at_ (.wwSetwin 4096#32) 1#3 1000000#32)) (fun t => t.seq) = some 2#3 := by decide

/-- V-F1 and V-F2 meet the first clause. -/
theorem witness_WindowBelowOneCycleRaisesWzero :
    idle.seq = 0#3 ∧ idle.wck = true ∧ (quantize (instW idle.cfg) 4095#32 idle.env.pclk).2 = 0#12 ∧
    (quantize (instW idle.cfg) 5120#32 0#32).2 = 0#12 ∧ (quantize (instW idle.cfg) 4096#32 idle.env.pclk).2 ≠ 0#12 ∧
    idle.fault ≠ .wzero ∧ seen (exec (.wwSetwin 4095#32) idle) (fun t => t.fault) = some .wzero := by decide

theorem witness_FaultChecksComeInOrder :
    halted.halt = true ∧
    (let s := word 0xFF00000000#40
     s.halt = false ∧ s.busy = true ∧ decode s.cfg.caps s.cmdr = .error .unassignedOp) ∧
    (let s := unconstructed (.wwSetwin 0#32)
     s.halt = false ∧ s.busy = true ∧ decode s.cfg.caps s.cmdr = .ok (.wwSetwin 0#32) ∧ s.seq = 0#3 ∧
       needsWck (.wwSetwin 0#32) = true ∧ s.wck = false) ∧
    (let s := at_ (.wwSetwin 0#32) 0#3 0#32
     s.halt = false ∧ s.busy = true ∧ s.fault ≠ .wzero ∧ seen (wdgqStep s) (fun t => t.fault) = some .wzero) := by decide

/-- A step that writes the pair, one that does not, and neither is a reset. -/
theorem witness_OnlyQuantizingCommandsWriteThePair :
    resetTurn (at_ (.qntI 1#32) 0#3 0#32) = false ∧
    seen (step (at_ (.qntI 1#32) 0#3 0#32)) (fun t => t.qr) = some 8#12 ∧
    seen (step (at_ .iwFeed 0#3 0#32)) (fun t => t.qr) = some 4000#12 := by decide

theorem witness_OnlyDecodingCommandsWriteTheResult :
    resetTurn (at_ .decI 0#3 0#32) = false ∧ seen (step (at_ .decI 0#3 0#32)) (fun t => t.res) = some 4000000#64 ∧
    seen (step (at_ .iwIval 0#3 0#32)) (fun t => t.res) = some 5#64 := by decide

theorem witness_OnlyWwStartWritesTheCachedReload :
    resetTurn (at_ (.wwStart 0#32) 1#3 1000000#32) = false ∧
    seen (step (at_ (.wwStart 0#32) 1#3 1000000#32)) (fun t => t.rlc) = some 0#6 ∧
    seen (exec (.wwSetwin 5120#32) idle) (fun t => t.rlc) = some 12#6 := by decide

theorem witness_StateBitsAreOneWay :
    resetTurn (at_ (.iwStart 0#32) 5#3 0#32) = false ∧
    seen (step (at_ (.iwStart 0#32) 5#3 0#32)) (fun t => t.iwdgSt) = some .running ∧
    seen (step (at_ (.wwStart 0#32) 3#3 0#32)) (fun t => t.wwdgSt) = some .running ∧
    seen (step (unconstructed .wwNew)) (fun t => t.wck) = some true := by decide

theorem witness_FaultRecordIsSticky :
    resetTurn (word 0#40) = false ∧ seen (step (word 0#40)) (fun t => t.fault) = some .illcmd ∧
    resetTurn halted = false ∧ seen (step halted) (fun t => t.fault) = some .wzero := by decide

theorem witness_ParametersNeverChange :
    seen (step { idle with sched := [.reset] }) (fun t => t.cfg) = some Config.default := by decide

theorem witness_TraceGrowsByOneTransactionInOrder :
    resetTurn idle = false ∧ seen (step idle) (fun t => t.trace) = some [] ∧
    seen (step (at_ .iwFeed 0#3 0#32)) (fun t => t.trace.length) = some 1 ∧
    named .iwFeed (at_ .iwFeed 0#3 0#32) = some (.memWrite .key 0xAAAA#16) := by decide

theorem witness_FrequencyIsQueriedFreshAndFirst :
    queriedDomain (.wwStart 0#32) = some .pclk ∧ idle.seq = 0#3 ∧ (needsWck (.wwStart 0#32) = true → idle.wck = true) ∧
    queriedDomain .wwFeed = none ∧ seen (exec .wwFeed idle) (fun t => t.fq) = some 32000#32 ∧
    (at_ .iwIval 1#3 32000#32).seq ≠ 0#3 ∧
    seen (exec .iwIval (at_ .iwIval 1#3 32000#32)) (fun t => t.fq) = some 32000#32 := by decide

theorem witness_FieldWriteLeavesOtherFields : Field.rl ≠ Field.pr := by decide

/-- An intruder sets `wdga` and changes `wdgtb` and `irqmask` inside the write of `t` and the write of `w`. -/
theorem witness_FieldWriteLeavesOtherFields_within :
    (let ws : List FieldWrite := [⟨.wdga, 1#1⟩, ⟨.wdgtb, 5#3⟩, ⟨.irqmask, 1#1⟩]
     let s := { at_ (.wwSetwin 5120#32) 2#3 1000000#32 with sched := [.within ws] }
     seen (wdgqStep { s with sched := [] }) (fun u => (u.trace, u.draws)) = some (s.trace ++ [.memWrite .w 1#7], 2) ∧
       (s.env.writes ws 2).fields.clkgate = 1#1 ∧ Field.wdgtb.register = Field.w.register ∧
       Field.irqmask.register ≠ Field.w.register ∧ (s.env.writes ws 2).fields.wdga = 1#1) ∧
    (let ws : List FieldWrite := [⟨.wdga, 1#1⟩]
     let s0 := at_ .wwFeed 0#3 0#32
     let s := { s0 with sched := [.within ws], env := { world with fields := { world.fields with wdga := 0#1 } } }
     (s.env.writes ws 2).fields.wdga = 1#1 ∧ Field.t.register = Field.wdga.register ∧
       seen (wdgqStep { s with sched := [] }) (fun u => (u.trace, u.draws)) = some (s.trace ++ [.memWrite .t 12#7], 2) ∧
       seen (step s) (fun t => (t.env.fields.t, t.env.fields.wdga)) = some (12#7, 1#1)) := by decide

theorem witness_KeysAndStickyEnable :
    world.counting = true ∧ world.unlocked = true ∧ world.fields.wdga = 1#1 ∧ Field.pr ≠ Field.key := by decide

/-- A write, a drift and a step of nobody, none of them a reset. -/
theorem witness_EnablesAreNeverUndone :
    resetTurn { idle with sched := [.drift .wdga 0#1] } = false ∧ idle.env.fields.wdga = 1#1 ∧ idle.env.counting = true ∧
    seen (step { idle with sched := [.drift .wdga 0#1] }) (fun t => t.env.counting) = some true ∧
    seen (step (at_ .iwFeed 0#3 0#32)) (fun t => t.env.counting) = some true := by decide

theorem witness_DecodeAndEncodeAgree :
    WellFormed Caps.both (.iwStart 4294967295#32) = true ∧ decode Caps.both 0x2500000001#40 = .ok (.wwEwi true) := by decide

theorem witness_OpcodeTableDecidesDecoding :
    (⟨"IW.FEED", 0xFFFFFFFFFF#40, 0x1100000000#40⟩ : OpcodeRow) ∈ opcodeRows ∧
    (⟨"IW.FEED", 0xFFFFFFFFFF#40, 0x1100000000#40⟩ : OpcodeRow).fits 0x1100000000#40 = true ∧
    decode Caps.both 0x1100000000#40 = .ok .iwFeed := by decide

theorem witness_instantiations : IsInstantiation instI ∧ IsInstantiation (instW Config.default) :=
  ⟨.inl rfl, .inr ⟨Config.default, rfl⟩⟩

/-- V-Q7 lies strictly inside the table and above index 0, V-Q11 is clamped at the last index. -/
theorem witness_QuantizeClosedForm :
    (quantize instI 512#32 32000#32).1 < instI.pmax ∧ 0 < (quantize instI 512#32 32000#32).1.toNat ∧
    exactCycles instI 512#32 32000#32 >>> (quantize instI 512#32 32000#32).1.toNat ≤ instI.rmax.toNat ∧
    instI.rmax.toNat < exactCycles instI 32768#32 32000#32 >>> (quantize instI 32768#32 32000#32).1.toNat := by decide

/-- V-Q10 and V-Q11: the last unclamped request and the first clamped one. -/
theorem witness_QuantizationErrorIsBounded :
    (32000#32 : Freq) ≠ 0#32 ∧
    exactCycles instI 32767#32 32000#32 >>> (quantize instI 32767#32 32000#32).1.toNat ≤ instI.rmax.toNat ∧
    instI.rmax.toNat < exactCycles instI 32768#32 32000#32 >>> (quantize instI 32768#32 32000#32).1.toNat ∧
    0 < (quantize instI 32768#32 32000#32).2.toNat := by decide

/-- V-Q8. -/
theorem witness_TooLongARequestSaturates :
    instI.rmax.toNat * exactDiv instI instI.pmax * instI.unit.toNat < (36000000#32).toNat * (32#32).toNat := by decide

theorem witness_ZeroFrequencyAndOutOfTableIndex :
    instI.pmax < 7#3 ∧ (1#32 : Freq) ≠ 0#32 ∧ 6#3 ≤ instI.pmax := by decide

/-- Transaction [2] of `IW.START 4000`: the scope is open. -/
def opened : State :=
  { at_ (.iwStart 4000#32) 2#3 32000#32 with trace := [.clkQuery .lsi 32000#32, .memWrite .key 0x5555#16] }

theorem witness_Invariant_opened : Invariant opened where
  halt_fault := by decide
  halt_idle := by decide
  idle_seq := by decide
  progress := fun _ _ => ⟨.iwStart 4000#32, by decide, by decide, by show (_, _) = quantize instI 4000#32 32000#32; decide⟩
  scope := by decide
  legal_trace := by
    intro x hx
    obtain rfl | rfl : x = .clkQuery .lsi 32000#32 ∨ x = .memWrite .key 0x5555#16 := by simpa [opened] using hx
    · trivial
    · exact .inl rfl

theorem witness_EveryStepKeepsTheInvariant : Invariant opened ∧ seen (step opened) (fun t => t.seq) = some 3#3 :=
  ⟨witness_Invariant_opened, by decide⟩

theorem witness_EveryTransactionOfEveryCommandCompletes :
    (5#3).toNat < transactions (.iwStart 0#32) ∧ transactions (.iwStart 0#32) ≤ (6#3).toNat ∧
    (let s := at_ (.wwSetwin 4096#32) 0#3 0#32
     s.seq.toNat < transactions (.wwSetwin 4096#32) ∧ needsWck (.wwSetwin 4096#32) = true ∧ s.seq = 0#3 ∧ s.wck = true ∧
       (quantize (instW s.cfg) 4096#32 s.env.pclk).2 ≠ 0#12 ∧ s.seq.toNat + 1 < transactions (.wwSetwin 4096#32)) ∧
    (at_ (.iwStart 0#32) 5#3 0#32).seq.toNat + 1 = transactions (.iwStart 0#32) := by decide

theorem witness_CommandEndsWithinSixSteps : Invariant opened ∧ opened.sched = [] ∧ opened.busy = true :=
  ⟨witness_Invariant_opened, by decide, by decide⟩

theorem witness_UnlockScopeIsAlwaysClosed :
    Invariant opened ∧ inScope opened = true ∧ resetTurn opened = false ∧
    seen (step opened) (fun t => t.busy) = some true :=
  ⟨witness_Invariant_opened, by decide, by decide, by decide⟩

theorem witness_UnlockScopeIsAlwaysClosed_idle :
    Invariant { idle with wck := false } ∧ seen (step { idle with wck := false }) (fun t => t.busy) = some false :=
  ⟨⟨by decide, by decide, by decide, fun h => absurd h (by decide), by decide, by simp [idle]⟩, by decide⟩

/-- A reset inside the scope: the open scope stands in `earlier`, and the trace of after it is empty (log entry 18). -/
theorem witness_UnlockScopeIsAlwaysClosed_reset :
    resetTurn { opened with sched := [.reset] } = true ∧
    seen (step { opened with sched := [.reset] }) (fun t => (t.busy, scopeOf t.trace)) = some (false, some .closed) ∧
    seen (step { opened with sched := [.reset] }) (fun t => scopeOf t.earlier) = some (some .opened) := by decide

theorem witness_OnlyAnswersOfTheEnvironmentMatter :
    AnswersAlike idle.env { world with fields := { world.fields with t := 5#7, key := 1#16 } } ∧
    seen (step idle) (fun t => t.busy) = some false :=
  ⟨⟨rfl, rfl, rfl, rfl, rfl, rfl, rfl⟩, by decide⟩

theorem witness_ControllerStatesAreNeverRead :
    seen (step (at_ (.iwStart 0#32) 5#3 0#32)) (fun t => t.iwdgSt) = some .running := by decide

theorem witness_IntruderCanCloseTheScope :
    (let s := { opened with sched := [.intrude .key 0xAAAA#16] }
     s.sched = [.intrude .key 0xAAAA#16] ∧ s.halt = false ∧ s.busy = true ∧ s.cmdr = encode (.iwStart 4000#32) ∧
       s.seq = 2#3) := by decide

theorem witness_OnePrescalerForWindowAndTimeout :
    (let s := at_ (.wwStart 50000#32) 1#3 48000000#32
     s.seq = 1#3 ∧ s.env.fields.clkgate = 1#1 ∧ seen (exec (.wwStart 50000#32) s) (fun t => t.env.fields.wdgtb) = some 4#3) ∧
    Config.default.pmaxW = 7#3 := by decide

/-- V-Q4, V-Q10 and V-Q11 at the limits of the three clauses on the pair. -/
theorem witness_QntIWritesThePair :
    idle.seq = 0#3 ∧ (1#32).toNat * (3999#32).toNat < 4000 ∧ (32767#32).toNat * (32000#32).toNat / 4000 < 262144 ∧
    262144 ≤ (32768#32).toNat * (32000#32).toNat / 4000 := by decide

/-- V-Q32. -/
theorem witness_QntWWritesThePair : idle.seq = 0#3 ∧ (85#32).toNat * (48000000#32).toNat < 4096000000 := by decide

/-- V-D3, V-D6 and V-D7 at the limits. -/
theorem witness_DecIWritesTheResult :
    (let s := { idle with qp := 6#3 }
     s.seq = 0#3 ∧ s.env.lsi ≠ 0#32 ∧ s.qp.toNat ≤ 6) ∧
    (let s := { idle with qp := 7#3 }
     s.seq = 0#3 ∧ 6 < s.qp.toNat) ∧
    (clocked 0#32 0#32 idle).env.lsi = 0#32 ∧ 4 * 2 ^ (0#3).toNat * 1000000 < (4000001#32).toNat := by decide

theorem witness_DecWWritesTheResult :
    (let s := { idle with qp := 7#3 }
     s.seq = 0#3 ∧ s.env.pclk ≠ 0#32 ∧ s.qp ≤ s.cfg.pmaxW) ∧
    (let s := { idle with qp := 4#3, cfg := { Config.default with pmaxW := 3#3 } }
     s.seq = 0#3 ∧ s.cfg.pmaxW < s.qp) ∧
    (clocked 0#32 0#32 idle).env.pclk = 0#32 := by decide

theorem witness_IwStartTransactions :
    (at_ (.iwStart 1#32) 0#3 0#32).seq = 0#3 ∧ (at_ (.iwStart 1#32) 1#3 0#32).seq = 1#3 ∧
    (at_ (.iwStart 1#32) 2#3 0#32).seq = 2#3 ∧ (at_ (.iwStart 1#32) 3#3 0#32).seq = 3#3 ∧
    (at_ (.iwStart 1#32) 4#3 0#32).seq = 4#3 ∧ (at_ (.iwStart 1#32) 5#3 0#32).seq = 5#3 := by decide

theorem witness_IwStartRunArmsTheWatchdog :
    (let s := asked (.iwStart 4000#32)
     s.sched = [] ∧ s.halt = false ∧ s.busy = false ∧ s.pending = encode (.iwStart 4000#32) :: []) := by decide

theorem witness_one_transaction_commands : idle.seq = 0#3 ∧ idle.wck = true := by decide

theorem witness_IwIvalTransactions :
    (at_ .iwIval 0#3 0#32).seq = 0#3 ∧ (at_ .iwIval 1#3 0#32).seq = 1#3 ∧
    (let s := { at_ .iwIval 2#3 32000#32 with rb := 6#3 }
     s.seq = 2#3 ∧ s.fq ≠ 0#32 ∧ s.rb.toNat ≤ 6) ∧
    (let s := { at_ .iwIval 2#3 32000#32 with rb := 7#3 }
     s.seq = 2#3 ∧ 6 < s.rb.toNat) ∧
    (let s := at_ .iwIval 2#3 0#32
     s.seq = 2#3 ∧ s.fq = 0#32) := by decide

theorem witness_IwIvalRunReportsTheFields :
    (let s := asked .iwIval
     s.sched = [] ∧ s.halt = false ∧ s.busy = false ∧ s.pending = encode .iwIval :: [] ∧ s.env.lsi ≠ 0#32 ∧
       s.env.fields.pr.toNat ≤ 6) := by decide

theorem witness_WwSetwinTransactions :
    (let s := at_ (.wwSetwin 4096#32) 0#3 0#32
     s.seq = 0#3 ∧ s.wck = true ∧ (quantize (instW s.cfg) 4096#32 s.env.pclk).2 ≠ 0#12) ∧
    (at_ (.wwSetwin 4096#32) 1#3 0#32).seq = 1#3 ∧ (at_ (.wwSetwin 4096#32) 2#3 0#32).seq = 2#3 := by decide

/-- V-Q23: exactly one counter cycle. -/
theorem witness_WwSetwinRunCommitsTheWindow :
    (let s := asked (.wwSetwin 4096#32)
     s.sched = [] ∧ s.halt = false ∧ s.busy = false ∧ s.pending = encode (.wwSetwin 4096#32) :: [] ∧ s.wck = true ∧
       4096000000 ≤ (4096#32).toNat * s.env.pclk.toNat ∧ s.env.fields.clkgate = 1#1) := by decide

theorem witness_WwStartTransactions :
    (at_ (.wwStart 0#32) 0#3 0#32).seq = 0#3 ∧ (at_ (.wwStart 0#32) 0#3 0#32).wck = true ∧
    (at_ (.wwStart 0#32) 1#3 0#32).seq = 1#3 ∧ (at_ (.wwStart 0#32) 2#3 0#32).seq = 2#3 ∧
    (at_ (.wwStart 0#32) 3#3 0#32).seq = 3#3 := by decide

theorem witness_WwStartRunCachesAndEnables :
    (let s := asked (.wwStart 0#32)
     s.sched = [] ∧ s.halt = false ∧ s.busy = false ∧ s.pending = encode (.wwStart 0#32) :: [] ∧ s.wck = true ∧
       s.env.fields.clkgate = 1#1) := by decide

theorem witness_WwIvalTransactions :
    (at_ .wwIval 0#3 0#32).seq = 0#3 ∧ (at_ .wwIval 0#3 0#32).wck = true ∧
    (let s := at_ .wwIval 1#3 1000000#32
     s.seq = 1#3 ∧ s.fq ≠ 0#32 ∧ s.env.fields.wdgtb ≤ s.cfg.pmaxW) ∧
    (let s := { at_ .wwIval 1#3 1000000#32 with
                env := { world with fields := { world.fields with wdgtb := 4#3 } }
                cfg := { Config.default with pmaxW := 3#3 } }
     s.seq = 1#3 ∧ s.cfg.pmaxW < s.env.fields.wdgtb) ∧
    (let s := at_ .wwIval 1#3 0#32
     s.seq = 1#3 ∧ s.fq = 0#32) := by decide

theorem witness_WwIvalRunReportsTheCachedCount :
    (let s := asked .wwIval
     s.sched = [] ∧ s.halt = false ∧ s.busy = false ∧ s.pending = encode .wwIval :: [] ∧ s.wck = true ∧
       s.env.pclk ≠ 0#32 ∧ s.env.fields.wdgtb ≤ s.cfg.pmaxW) := by decide

theorem witness_WwEwiTransactions :
    (at_ (.wwEwi true) 0#3 0#32).seq = 0#3 ∧ (at_ (.wwEwi true) 0#3 0#32).wck = true ∧
    (at_ (.wwEwi true) 1#3 0#32).seq = 1#3 := by decide

theorem witness_WwEwiRunWritesFieldThenMask :
    (let s := asked (.wwEwi true)
     s.sched = [] ∧ s.halt = false ∧ s.busy = false ∧ s.pending = encode (.wwEwi true) :: [] ∧ s.wck = true ∧
       s.cfg.caps.irq = true ∧ s.env.fields.clkgate = 1#1 ∧ s.env.fields.ewi = 0#1) := by decide

end Sys2Proof.Tests
end

section
/-! Two runs whose environments answer alike (00_scope.md R7 (3), 20_memory.md R28, R32). `AnswersAlike` is kept by every
change of the environment; two states that differ only in environments that answer alike are kept so by every operation
of WDGQ, every event and every step. -/

namespace Sys2Proof.Machine

/-! ### Environments that answer alike -/

/-- The fields whose values `AnswersAlike` compares: the three that WDGQ reads (20_memory.md R32) and the bus-clock gate,
which decides what a window watchdog field takes (20_memory.md R42). -/
def Field.answering : Field → Bool
  | .pr => true
  | .rl => true
  | .wdgtb => true
  | .clkgate => true
  | _ => false

namespace AnswersAlike

variable {a b a₀ b₀ : Env}

theorem refl (a : Env) : AnswersAlike a a := ⟨rfl, rfl, rfl, rfl, rfl, rfl, rfl⟩

theorem get (h : AnswersAlike a b) {fa : Field} (hf : fa.answering = true) : a.fields.get fa = b.fields.get fa := by
  cases fa with
  | pr => exact h.pr
  | rl => exact h.rl
  | wdgtb => exact h.wdgtb
  | clkgate => exact h.clkgate
  | _ => cases hf

theorem of_get (lsi : a.lsi = b.lsi) (pclk : a.pclk = b.pclk)
    (get : ∀ fa : Field, fa.answering = true → a.fields.get fa = b.fields.get fa) (unlocked : a.unlocked = b.unlocked) :
    AnswersAlike a b :=
  ⟨lsi, pclk, get .pr rfl, get .rl rfl, get .wdgtb rfl, get .clkgate rfl, unlocked⟩

theorem freq (h : AnswersAlike a b) (dom : Domain) : a.freq dom = b.freq dom := by
  cases dom with
  | lsi => exact h.lsi
  | pclk => exact h.pclk

theorem setFreq (h : AnswersAlike a b) (dom : Domain) (f : Freq) : AnswersAlike (a.setFreq dom f) (b.setFreq dom f) := by
  cases dom with
  | lsi => exact { h with lsi := rfl }
  | pclk => exact { h with pclk := rfl }

theorem gated (h : AnswersAlike a b) {w : Nat} (v : BitVec w) (n : Nat) : a.gated v n = b.gated v n := by
  simp only [Env.gated, h.clkgate]

theorem ifUnlocked (h : AnswersAlike a b) {w : Nat} (v : BitVec w) (n : Nat) : a.ifUnlocked v n = b.ifUnlocked v n := by
  simp only [Env.ifUnlocked, h.unlocked]

theorem stored (h : AnswersAlike a b) {fa : Field} (hf : fa.answering = true) (v : BitVec fa.width) (n : Nat) :
    a.stored fa v n = b.stored fa v n := by
  cases fa with
  | pr => exact h.ifUnlocked v n
  | rl => exact h.ifUnlocked v n
  | wdgtb => exact h.gated v n
  | clkgate => rfl
  | _ => cases hf

/-- The write protection after a write depends on the write and on what it was, on nothing else. -/
theorem lockAfter (h : AnswersAlike a b) (fa : Field) (v : BitVec fa.width) (n : Nat) :
    a.lockAfter fa v n = b.lockAfter fa v n := by
  cases fa with
  | key => simp only [Env.lockAfter, Env.lockAfterKey, h.unlocked]
  | _ => exact h.unlocked

theorem write (h : AnswersAlike a b) (fa : Field) (v : BitVec fa.width) (n : Nat) :
    AnswersAlike (a.write fa v n) (b.write fa v n) := by
  refine of_get h.lsi h.pclk (fun fb hfb => ?_) (h.lockAfter fa v n)
  by_cases hab : fb = fa
  · subst hab
    rw [Env.write_get_same, Env.write_get_same, h.stored hfb]
  · rw [Env.write_get_other _ _ _ hab, Env.write_get_other _ _ _ hab, h.get hfb]

theorem writes (h : AnswersAlike a b) (ws : List FieldWrite) (n : Nat) : AnswersAlike (a.writes ws n) (b.writes ws n) := by
  induction ws generalizing a b n with
  | nil => exact h
  | cons x xs ih => exact ih (h.write ..) _

/-- `a` and `b` at the write back, `a₀` and `b₀` when the register was read. -/
theorem restored (h : AnswersAlike a b) (h₀ : AnswersAlike a₀ b₀) (fa : Field) {fb : Field} (hf : fb.answering = true)
    (n : Nat) : a.restored a₀.fields fa fb n = b.restored b₀.fields fa fb n := by
  simp only [Env.restored, h.get hf, h₀.get hf, h.stored hf]

theorem writeBack (h : AnswersAlike a b) (h₀ : AnswersAlike a₀ b₀) (fa : Field) (v : BitVec fa.width) (n : Nat) :
    AnswersAlike (a.writeBack a₀.fields fa v n) (b.writeBack b₀.fields fa v n) := by
  refine of_get h.lsi h.pclk (fun fb hfb => ?_) (h.lockAfter fa v n)
  by_cases hab : fb = fa
  · subst hab
    rw [Env.writeBack_get_same, Env.writeBack_get_same, h.stored hfb]
  · rw [Env.writeBack_get_other _ _ _ _ hab, Env.writeBack_get_other _ _ _ _ hab, h.restored h₀ fa hfb]

/-- Only `wdga` after a change of the environment's own depends on what it was, and it is none of the compared fields. -/
theorem drifted (a b : Env) {fa : Field} (hf : fa.answering = true) (v : BitVec fa.width) :
    a.drifted fa v = b.drifted fa v := by
  cases fa with
  | wdga => cases hf
  | _ => rfl

theorem drift (h : AnswersAlike a b) (fa : Field) (v : BitVec fa.width) : AnswersAlike (a.drift fa v) (b.drift fa v) := by
  refine of_get h.lsi h.pclk (fun fb hfb => ?_) h.unlocked
  by_cases hab : fb = fa
  · subst hab
    rw [Env.drift_get_same, Env.drift_get_same, drifted a b hfb]
  · rw [Env.drift_get_other _ _ hab, Env.drift_get_other _ _ hab, h.get hfb]

end AnswersAlike

/-! ### States that differ only in an environment that answers alike -/

/-- The two states differ in their environments alone, and these answer alike. -/
def StatesAlike (s s' : State) : Prop := ∃ e, AnswersAlike s.env e ∧ s' = { s with env := e }

namespace StatesAlike

variable {s s' t t' : State}

/-- An operation that neither changes the environment nor looks at it. -/
theorem map (f : State → State) (hf : ∀ (s : State) (e : Env), f { s with env := e } = { f s with env := e })
    (henv : ∀ s, (f s).env = s.env) (h : StatesAlike s s') : StatesAlike (f s) (f s') := by
  obtain ⟨e, he, rfl⟩ := h
  exact ⟨e, (henv s).symm ▸ he, hf s e⟩

theorem advance : StatesAlike s s' → StatesAlike s.advance s'.advance := map _ (fun _ _ => rfl) fun _ => rfl

theorem complete : StatesAlike s s' → StatesAlike s.complete s'.complete := map _ (fun _ _ => rfl) fun _ => rfl

theorem raise (code : FaultCode) : StatesAlike s s' → StatesAlike (s.raise code) (s'.raise code) :=
  map (·.raise code) (fun _ _ => rfl) fun _ => rfl

theorem setIndex (v : BitVec 3) : StatesAlike s s' → StatesAlike (s.setIndex v) (s'.setIndex v) :=
  map (·.setIndex v) (fun _ _ => rfl) fun _ => rfl

theorem setReload (v : BitVec 6) : StatesAlike s s' → StatesAlike (s.setReload v) (s'.setReload v) :=
  map (·.setReload v) (fun _ _ => rfl) fun _ => rfl

theorem setRes (v : Option Result) : StatesAlike s s' → StatesAlike (s.setRes v) (s'.setRes v) :=
  map (·.setRes v) (fun _ _ => by cases v <;> rfl) fun s => s.setRes_env v

theorem runIwdg : StatesAlike s s' → StatesAlike s.runIwdg s'.runIwdg := map _ (fun _ _ => rfl) fun _ => rfl

theorem runWwdg : StatesAlike s s' → StatesAlike s.runWwdg s'.runWwdg := map _ (fun _ _ => rfl) fun _ => rfl

theorem construct : StatesAlike s s' → StatesAlike s.construct s'.construct := map _ (fun _ _ => rfl) fun _ => rfl

theorem fieldValue (h : StatesAlike s s') {fa : Field} (hf : fa.answering = true) : s'.fieldValue fa = s.fieldValue fa := by
  obtain ⟨e, he, rfl⟩ := h
  exact (he.get hf).symm

theorem memRead (h : StatesAlike s s') {fa : Field} (hf : fa.answering = true) :
    StatesAlike (s.memRead fa) (s'.memRead fa) := by
  rw [State.memRead, State.memRead, h.fieldValue hf]
  exact map (·.emit _) (fun _ _ => rfl) (fun _ => rfl) h

theorem memWrite (h : StatesAlike s s') (fa : Field) (v : BitVec fa.width) :
    StatesAlike (s.memWrite fa v) (s'.memWrite fa v) := by
  obtain ⟨e, he, rfl⟩ := h
  exact ⟨_, he.write fa v s.draws, rfl⟩

theorem clkQuery (h : StatesAlike s s') (dom : Domain) : StatesAlike (s.clkQuery dom) (s'.clkQuery dom) := by
  obtain ⟨e, he, rfl⟩ := h
  exact ⟨e, he, by simp only [State.clkQuery, State.emit, he.freq]⟩

theorem queryAndQuantize (h : StatesAlike s s') (q : Instantiation) (d : Duration) :
    StatesAlike (s.queryAndQuantize q d) (s'.queryAndQuantize q d) :=
  map (fun u => u.setPair (u.pairFor q d)) (fun _ _ => rfl) (fun _ => rfl) (h.clkQuery q.dom)

theorem queryAndDecode (h : StatesAlike s s') (q : Instantiation) :
    StatesAlike (s.queryAndDecode q) (s'.queryAndDecode q) := by
  obtain ⟨e, he, hs⟩ := h.clkQuery q.dom
  simp only [State.queryAndDecode, hs]
  exact setRes _ ⟨e, he, rfl⟩

theorem ifCounted (h : StatesAlike s s') : StatesAlike s.ifCounted s'.ifCounted := by
  have hqr : s'.qr = s.qr := by obtain ⟨e, -, rfl⟩ := h; rfl
  unfold State.ifCounted
  rw [hqr]
  split
  · exact h.raise .wzero
  · exact h.advance

theorem ifConstructed (h : StatesAlike s s') (hgo : StatesAlike t t') :
    StatesAlike (s.ifConstructed t) (s'.ifConstructed t') := by
  have hwck : s'.wck = s.wck := by obtain ⟨e, -, rfl⟩ := h; rfl
  unfold State.ifConstructed
  rw [hwck]
  split
  · exact hgo
  · exact h.raise .seqerr

/-- Another writer's writes inside the steps from `s` to `t` and from `s'` to `t'`. -/
theorem interfered (ht : StatesAlike t t') (hs : StatesAlike s s') (ws : List FieldWrite) :
    StatesAlike (t.interfered s ws) (t'.interfered s' ws) := by
  obtain ⟨e, he, rfl⟩ := hs
  obtain ⟨f, hf, rfl⟩ := ht
  have hw : State.wroteSince { t with env := f } { s with env := e } = t.wroteSince s := rfl
  unfold State.interfered
  rw [hw]
  cases t.wroteSince s with
  | none => exact ⟨_, hf.writes ws t.draws, rfl⟩
  | some x => exact ⟨_, (he.writes ws t.draws).writeBack he x.field x.value _, rfl⟩

theorem happen (h : StatesAlike s s') (ev : Event) : StatesAlike (s.happen ev) (s'.happen ev) := by
  obtain ⟨e, he, rfl⟩ := h
  cases ev with
  | wdgq => exact ⟨e, he, rfl⟩
  | present w => exact ⟨e, he, rfl⟩
  | reset => exact ⟨_, .refl _, rfl⟩
  | clock dom f => exact ⟨_, he.setFreq dom f, rfl⟩
  | drift fa v => exact ⟨_, he.drift fa v, rfl⟩
  | intrude fa v => exact ⟨_, he.write fa v s.draws, rfl⟩
  | within ws => exact ⟨e, he, rfl⟩

end StatesAlike

/-! ### Outcomes: one transaction of a command, a step of WDGQ, a step of the machine -/

/-- Two steps that go to states alike, or stop for the same reason. -/
inductive OutcomesAlike : Host.Outcome State Fault Refusal → Host.Outcome State Fault Refusal → Prop
  | next {t t' : State} (h : StatesAlike t t') : OutcomesAlike (.next t) (.next t')
  | fault (r : Fault) : OutcomesAlike (.fault r) (.fault r)
  | refused (r : Refusal) : OutcomesAlike (.refused r) (.refused r)

section Exec

variable {s : State} {e : Env}

theorem execQntI_alike (h : StatesAlike s { s with env := e }) (d : Duration) :
    OutcomesAlike (execQntI d s) (execQntI d { s with env := e }) := by
  unfold execQntI
  dsimp only
  split
  · exact .next (h.queryAndQuantize instI d).complete
  · exact .fault _

theorem execQntW_alike (h : StatesAlike s { s with env := e }) (d : Duration) :
    OutcomesAlike (execQntW d s) (execQntW d { s with env := e }) := by
  unfold execQntW
  dsimp only
  split
  · exact .next (h.queryAndQuantize (instW s.cfg) d).complete
  · exact .fault _

theorem execDecI_alike (h : StatesAlike s { s with env := e }) :
    OutcomesAlike (execDecI s) (execDecI { s with env := e }) := by
  unfold execDecI
  dsimp only
  split
  · exact .next (h.queryAndDecode instI).complete
  · exact .fault _

theorem execDecW_alike (h : StatesAlike s { s with env := e }) :
    OutcomesAlike (execDecW s) (execDecW { s with env := e }) := by
  unfold execDecW
  dsimp only
  split
  · exact .next (h.queryAndDecode (instW s.cfg)).complete
  · exact .fault _

theorem execIwStart_alike (h : StatesAlike s { s with env := e }) (d : Duration) :
    OutcomesAlike (execIwStart d s) (execIwStart d { s with env := e }) := by
  unfold execIwStart
  dsimp only
  split
  · exact .next (h.queryAndQuantize instI d).advance
  · exact .next (h.memWrite .key keyUnlock).advance
  · exact .next (h.memWrite .pr _).advance
  · exact .next (h.memWrite .rl _).advance
  · exact .next (h.memWrite .key keyFeed).advance
  · exact .next (h.memWrite .key keyStart).runIwdg.complete
  · exact .fault _

theorem execIwFeed_alike (h : StatesAlike s { s with env := e }) :
    OutcomesAlike (execIwFeed s) (execIwFeed { s with env := e }) := by
  unfold execIwFeed
  dsimp only
  split
  · exact .next (h.memWrite .key keyFeed).complete
  · exact .fault _

theorem execIwIval_alike (h : StatesAlike s { s with env := e }) :
    OutcomesAlike (execIwIval s) (execIwIval { s with env := e }) := by
  unfold execIwIval
  rw [h.fieldValue (fa := .pr) rfl, h.fieldValue (fa := .rl) rfl]
  dsimp only
  split
  · exact .next (h.clkQuery .lsi).advance
  · exact .next ((h.memRead rfl).setIndex _).advance
  · exact .next ((h.memRead rfl).setRes _).complete
  · exact .fault _

theorem execIwDbg_alike (h : StatesAlike s { s with env := e }) (stop : Bool) :
    OutcomesAlike (execIwDbg stop s) (execIwDbg stop { s with env := e }) := by
  unfold execIwDbg
  dsimp only
  split
  · exact .next (h.memWrite .dbgfrz (flagOperand stop)).complete
  · exact .fault _

theorem execWwNew_alike (h : StatesAlike s { s with env := e }) :
    OutcomesAlike (execWwNew s) (execWwNew { s with env := e }) := by
  unfold execWwNew
  dsimp only
  split
  · exact .next (h.memWrite .clkgate 1#1).construct.complete
  · exact .fault _

theorem execWwSetwin_alike (h : StatesAlike s { s with env := e }) (d : Duration) :
    OutcomesAlike (execWwSetwin d s) (execWwSetwin d { s with env := e }) := by
  unfold execWwSetwin
  dsimp only
  split
  · exact .next (h.ifConstructed (h.queryAndQuantize (instW s.cfg) d).ifCounted)
  · exact .next (h.memWrite .wdgtb _).advance
  · exact .next (h.memWrite .w _).complete
  · exact .fault _

theorem execWwStart_alike (h : StatesAlike s { s with env := e }) (d : Duration) :
    OutcomesAlike (execWwStart d s) (execWwStart d { s with env := e }) := by
  unfold execWwStart
  dsimp only
  split
  · exact .next (h.ifConstructed (h.queryAndQuantize (instW s.cfg) d).advance)
  · exact .next ((h.memWrite .wdgtb _).setReload _).advance
  · exact .next (h.memWrite .t _).advance
  · exact .next (h.memWrite .wdga 1#1).runWwdg.complete
  · exact .fault _

theorem execWwFeed_alike (h : StatesAlike s { s with env := e }) :
    OutcomesAlike (execWwFeed s) (execWwFeed { s with env := e }) := by
  unfold execWwFeed
  dsimp only
  split
  · exact .next (h.ifConstructed (h.memWrite .t _).complete)
  · exact .fault _

theorem execWwIval_alike (h : StatesAlike s { s with env := e }) :
    OutcomesAlike (execWwIval s) (execWwIval { s with env := e }) := by
  unfold execWwIval
  rw [h.fieldValue (fa := .wdgtb) rfl]
  dsimp only
  split
  · exact .next (h.ifConstructed (h.clkQuery .pclk).advance)
  · exact .next (((h.memRead rfl).setIndex _).setRes _).complete
  · exact .fault _

theorem execWwEwi_alike (h : StatesAlike s { s with env := e }) (enabled : Bool) :
    OutcomesAlike (execWwEwi enabled s) (execWwEwi enabled { s with env := e }) := by
  unfold execWwEwi
  dsimp only
  split
  · exact .next (h.ifConstructed (h.memWrite .ewi (flagOperand enabled)).advance)
  · exact .next (h.memWrite .irqmask (flagOperand enabled)).complete
  · exact .fault _

theorem exec_alike (h : StatesAlike s { s with env := e }) (i : Instr) :
    OutcomesAlike (exec i s) (exec i { s with env := e }) := by
  cases i with
  | qntI d => exact execQntI_alike h d
  | qntW d => exact execQntW_alike h d
  | decI => exact execDecI_alike h
  | decW => exact execDecW_alike h
  | iwStart d => exact execIwStart_alike h d
  | iwFeed => exact execIwFeed_alike h
  | iwIval => exact execIwIval_alike h
  | iwDbg stop => exact execIwDbg_alike h stop
  | wwNew => exact execWwNew_alike h
  | wwSetwin d => exact execWwSetwin_alike h d
  | wwStart d => exact execWwStart_alike h d
  | wwFeed => exact execWwFeed_alike h
  | wwIval => exact execWwIval_alike h
  | wwEwi enabled => exact execWwEwi_alike h enabled

theorem wdgqStep_alike (h : StatesAlike s { s with env := e }) :
    OutcomesAlike (wdgqStep s) (wdgqStep { s with env := e }) := by
  unfold wdgqStep
  dsimp only
  split
  · exact .next (h.map State.ignoreWord (fun _ _ => rfl) fun _ => rfl)
  · split
    · cases decode s.cfg.caps s.cmdr with
      | ok i => exact exec_alike h i
      | error _ => exact .next (h.raise .illcmd)
    · split
      · exact .next h
      · exact .next (h.map (·.accept _ _) (fun _ _ => rfl) fun _ => rfl)

theorem wdgqStepWithin_alike (h : StatesAlike s { s with env := e }) (ws : List FieldWrite) :
    OutcomesAlike (wdgqStepWithin ws s) (wdgqStepWithin ws { s with env := e }) := by
  have hstep := wdgqStep_alike h
  unfold wdgqStepWithin
  generalize wdgqStep s = o, wdgqStep { s with env := e } = o' at hstep
  cases hstep with
  | next ht => exact .next (ht.interfered h ws)
  | fault r => exact .fault r
  | refused r => exact .refused r

theorem step_alike (he : AnswersAlike s.env e) : OutcomesAlike (step s) (step { s with env := e }) := by
  have alike (q : List Event) : StatesAlike { s with sched := q } { s with sched := q, env := e } := ⟨e, he, rfl⟩
  unfold step nextMove
  dsimp only
  split
  · exact wdgqStep_alike ⟨e, he, rfl⟩
  next rest _ => exact wdgqStep_alike (alike rest)
  next ws rest _ => exact wdgqStepWithin_alike (alike rest) ws
  next ev rest _ _ _ => exact .next ((alike rest).happen ev)

end Exec

/-- Settles O36: the two steps have outcomes alike, and the first goes to `t`. -/
theorem onlyAnswersOfTheEnvironmentMatter : Obligations.OnlyAnswersOfTheEnvironmentMatter := by
  intro s t e he hstep
  have halike := step_alike he
  rw [hstep] at halike
  generalize step { s with env := e } = o at halike ⊢
  obtain ⟨e', he', rfl⟩ | _ | _ := halike
  exact ⟨e', he', rfl⟩

end Sys2Proof.Machine
end

section
/-! One command's transaction, cut into its four parts (10_state.md R13): the check of `WCK`, the transaction that `SEQ`
names, the internal writes its rule lists with it (log entry 2), and the move of the sequencer. `exec_moves_on`,
`exec_raises_seqerr`, `exec_raises_wzero` and `exec_stops` tie the parts to `exec`; `exec_inv` is their inversion. -/

namespace Sys2Proof.Machine

/-! ### The parts -/

/-- The transaction `x`, performed: a query and a read are answered by the environment, whatever answer `x` names. -/
def State.perform (s : State) : Transaction → State
  | .clkQuery dom _ => s.clkQuery dom
  | .memRead fa _ => s.memRead fa
  | .memWrite fa v => s.memWrite fa v

/-- The internal writes that the rule of `i` lists with the transaction `SEQ` names (log entry 2). -/
def State.internal (s : State) (i : Instr) : State :=
  match i with
  | .qntI d => s.setPair (s.pairFor instI d)
  | .qntW d => s.setPair (s.pairFor (instW s.cfg) d)
  | .decI => s.setRes (interval instI s.qp s.qr s.fq)
  | .decW => s.setRes (interval (instW s.cfg) s.qp s.qr s.fq)
  | .iwStart d =>
    if s.seq = 0#3 then s.setPair (s.pairFor instI d) else if s.seq = 5#3 then s.runIwdg else s
  | .iwIval =>
    if s.seq = 1#3 then s.setIndex (s.fieldValue .pr)
    else if s.seq = 2#3 then s.setRes (toMs (interval instI s.rb (s.fieldValue .rl) s.fq))
    else s
  | .wwNew => s.construct
  | .wwSetwin d => if s.seq = 0#3 then s.setPair (s.pairFor (instW s.cfg) d) else s
  | .wwStart d =>
    if s.seq = 0#3 then s.setPair (s.pairFor (instW s.cfg) d)
    else if s.seq = 1#3 then s.setReload ((s.pairFor (instW s.cfg) d).2.setWidth 6)
    else if s.seq = 3#3 then s.runWwdg
    else s
  | .wwIval =>
    if s.seq = 1#3 then
      (s.setIndex (s.fieldValue .wdgtb)).setRes
        (interval (instW s.cfg) (s.fieldValue .wdgtb) (s.rlc.setWidth 12) s.fq)
    else s
  | .iwFeed => s
  | .iwDbg _ => s
  | .wwFeed => s
  | .wwEwi _ => s

/-- The sequencer after a transaction of `i`: at the next one, or idle after the last. -/
def State.moveOn (s : State) (i : Instr) : State :=
  if s.seq.toNat + 1 < transactions i then s.advance else s.complete

/-- `s` after the transaction `x` of `i` and the internal writes listed with it. -/
def State.performed (s : State) (i : Instr) (x : Transaction) : State := (s.perform x).internal i

/-! ### What `SEQ` names -/

theorem seq_lt_of_named {i : Instr} {s : State} {x : Transaction} (h : named i s = some x) :
    s.seq.toNat < transactions i := (named_isSome_iff i s).1 (by simp [h])

theorem exists_named_of_lt {i : Instr} {s : State} (h : s.seq.toNat < transactions i) : ∃ x, named i s = some x :=
  Option.isSome_iff_exists.1 ((named_isSome_iff i s).2 h)

theorem transactions_pos (i : Instr) : 0 < transactions i := by cases i <;> simp [transactions]

theorem transactions_le_six (i : Instr) : transactions i ≤ 6 := by cases i <;> simp [transactions]

theorem seq_eq_zero_iff (s : State) : s.seq = 0#3 ↔ s.seq.toNat = 0 := by
  simp [← BitVec.toNat_inj]

/-! ### The parts are the whole -/

/-- Past its last transaction a command stops (log entry 4). -/
theorem exec_stops {i : Instr} {s : State} (h : transactions i ≤ s.seq.toNat) : exec i s = .fault .seqOutOfRange := by
  obtain ⟨k, hk⟩ := Nat.exists_eq_add_of_le' h
  cases i <;>
    simp only [exec, execQntI, execQntW, execDecI, execDecW, execIwStart, execIwFeed, execIwIval, execIwDbg, execWwNew,
      execWwSetwin, execWwStart, execWwFeed, execWwIval, execWwEwi, transactions] at hk ⊢ <;>
    (rw [hk]; rfl)

/-- Before its first transaction a window watchdog command but `WW.NEW` faults with `WCK = 0` (60_exceptions.md R93). -/
theorem exec_raises_seqerr {i : Instr} {s : State} (hi : needsWck i = true) (hs : s.seq = 0#3) (hw : s.wck = false) :
    exec i s = .next (s.raise .seqerr) := by
  cases i with
  | wwSetwin d => simp [exec, execWwSetwin, State.ifConstructed, hs, hw]
  | wwStart d => simp [exec, execWwStart, State.ifConstructed, hs, hw]
  | wwFeed => simp [exec, execWwFeed, State.ifConstructed, hs, hw]
  | wwIval => simp [exec, execWwIval, State.ifConstructed, hs, hw]
  | wwEwi enabled => simp [exec, execWwEwi, State.ifConstructed, hs, hw]
  | _ => cases hi

/-- The query of `WW.SETWIN` with a zero count faults (60_exceptions.md R91). -/
theorem exec_raises_wzero {d : Duration} {s : State} {x : Transaction} (hx : named (.wwSetwin d) s = some x)
    (hs : s.seq = 0#3) (hw : s.wck = true) (hz : (quantize (instW s.cfg) d s.env.pclk).2 = 0#12) :
    exec (.wwSetwin d) s = .next ((s.performed (.wwSetwin d) x).raise .wzero) := by
  obtain rfl : Transaction.clkQuery .pclk s.env.pclk = x := by simpa [named, listed, hs] using hx
  have hdom : s.env.freq (instW s.cfg).dom = s.env.pclk := rfl
  simp [exec, execWwSetwin, State.ifConstructed, State.ifCounted, hs, hw, hdom, hz, State.performed, State.perform,
    State.internal]
  rfl

/-- Where no check fires, the transaction that `SEQ` names is performed, with the internal writes listed with it, and
the sequencer moves on. The proof reads the transaction off the list for each command and each `SEQ`, and compares. -/
theorem exec_moves_on {i : Instr} {s : State} {x : Transaction} (hx : named i s = some x)
    (hw : needsWck i = true → s.seq = 0#3 → s.wck = true)
    (hz : ∀ d, i = .wwSetwin d → s.seq = 0#3 → (quantize (instW s.cfg) d s.env.pclk).2 ≠ 0#12) :
    exec i s = .next ((s.performed i x).moveOn i) := by
  have hlt := seq_lt_of_named hx
  have hs : s.seq = BitVec.ofNat 3 s.seq.toNat := by simp
  have hdom : s.env.freq (instW s.cfg).dom = s.env.pclk := rfl
  cases i <;> simp only [transactions] at hlt <;> interval_cases s.seq.toNat
  all_goals
    obtain rfl : _ = x := by simpa [named, listed, hs] using hx
    simp [needsWck, hs] at hw hz
    simp [exec, execQntI, execQntW, execDecI, execDecW, execIwStart, execIwFeed, execIwIval, execIwDbg, execWwNew,
      execWwSetwin, execWwStart, execWwFeed, execWwIval, execWwEwi, State.ifConstructed, State.ifCounted, hs, hw, hz,
      hdom, State.performed, State.perform, State.internal, State.moveOn, transactions] <;> rfl

/-- What one transaction `x` of `i` makes of `s`: the command faults before it (60_exceptions.md R93), faults after it
(R91), or moves on. -/
inductive Transacts (i : Instr) (s : State) (x : Transaction) : State → Prop
  | seqerr (hi : needsWck i = true) (hs : s.seq = 0#3) (hw : s.wck = false) : Transacts i s x (s.raise .seqerr)
  | wzero (d : Duration) (hi : i = .wwSetwin d) (hs : s.seq = 0#3) (hw : s.wck = true)
      (hz : (quantize (instW s.cfg) d s.env.pclk).2 = 0#12) : Transacts i s x ((s.performed i x).raise .wzero)
  | moves (hw : needsWck i = true → s.seq = 0#3 → s.wck = true)
      (hz : ∀ d, i = .wwSetwin d → s.seq = 0#3 → (quantize (instW s.cfg) d s.env.pclk).2 ≠ 0#12) :
      Transacts i s x ((s.performed i x).moveOn i)

theorem exec_of_named {i : Instr} {s : State} {x : Transaction} (hx : named i s = some x) :
    ∃ t, exec i s = .next t ∧ Transacts i s x t := by
  by_cases hw : needsWck i = true → s.seq = 0#3 → s.wck = true
  · by_cases hz : ∀ d, i = .wwSetwin d → s.seq = 0#3 → (quantize (instW s.cfg) d s.env.pclk).2 ≠ 0#12
    · exact ⟨_, exec_moves_on hx hw hz, .moves hw hz⟩
    · push Not at hz
      obtain ⟨d, rfl, hs, hz⟩ := hz
      exact ⟨_, exec_raises_wzero hx hs (hw rfl hs) hz, .wzero d rfl hs (hw rfl hs) hz⟩
  · push Not at hw
    obtain ⟨hi, hs, hw⟩ := hw
    have hw := Bool.eq_false_of_not_eq_true hw
    exact ⟨_, exec_raises_seqerr hi hs hw, .seqerr hi hs hw⟩

/-- The inversion of `exec`: a next state is that of the transaction `SEQ` names. -/
theorem exec_inv {i : Instr} {s t : State} (h : exec i s = .next t) : ∃ x, named i s = some x ∧ Transacts i s x t := by
  obtain hlt | hge := lt_or_ge s.seq.toNat (transactions i)
  · obtain ⟨x, hx⟩ := exists_named_of_lt hlt
    obtain ⟨u, hu, hxu⟩ := exec_of_named hx
    rw [hu] at h
    cases h
    exact ⟨x, hx, hxu⟩
  · rw [exec_stops hge] at h
    cases h

/-! ### What the internal writes can be -/

/-- What the internal writes of one transaction of `i` can make of `s`: nothing, or one of the registers' writes, each
by its own commands and at its own place in them. -/
inductive Writes (i : Instr) (s : State) : State → Prop
  | nothing : Writes i s s
  | pair (v : BitVec 3 × BitVec 12) (hi : quantizes i = true) (hs : transactions i = 1 ∨ s.seq = 0#3) :
      Writes i s (s.setPair v)
  | index (v : BitVec 3) : Writes i s (s.setIndex v)
  | reload (v : BitVec 6) (d : Duration) (hi : i = .wwStart d) (hs : s.seq = 1#3) : Writes i s (s.setReload v)
  | result (hi : decodes i = true) (hs : transactions i ≤ s.seq.toNat + 1) (p : BitVec 3) (v : Option Result) :
      Writes i s ((s.setIndex p).setRes v)
  | iwdg (d : Duration) (hi : i = .iwStart d) (hs : transactions i ≤ s.seq.toNat + 1) : Writes i s s.runIwdg
  | wwdg (d : Duration) (hi : i = .wwStart d) (hs : transactions i ≤ s.seq.toNat + 1) : Writes i s s.runWwdg
  | wck (hi : i = .wwNew) (hs : transactions i ≤ s.seq.toNat + 1) : Writes i s s.construct

theorem State.internal_writes (s : State) (i : Instr) : Writes i s (s.internal i) := by
  cases i with
  | qntI d => exact .pair _ rfl (.inl rfl)
  | qntW d => exact .pair _ rfl (.inl rfl)
  | decI => exact .result rfl (Nat.le_add_left ..) s.rb _
  | decW => exact .result rfl (Nat.le_add_left ..) s.rb _
  | iwStart d =>
    unfold State.internal
    dsimp only
    split_ifs with h0 h5
    · exact .pair _ rfl (.inr h0)
    · exact .iwdg d rfl (by simp [transactions, h5])
    · exact .nothing
  | iwIval =>
    unfold State.internal
    dsimp only
    split_ifs with h1 h2
    · exact .index _
    · exact .result rfl (by simp [transactions, h2]) s.rb _
    · exact .nothing
  | wwNew => exact .wck rfl (Nat.le_add_left ..)
  | wwSetwin d =>
    unfold State.internal
    dsimp only
    split_ifs with h0
    · exact .pair _ rfl (.inr h0)
    · exact .nothing
  | wwStart d =>
    unfold State.internal
    dsimp only
    split_ifs with h0 h1 h3
    · exact .pair _ rfl (.inr h0)
    · exact .reload _ d rfl h1
    · exact .wwdg d rfl (by simp [transactions, h3])
    · exact .nothing
  | wwIval =>
    unfold State.internal
    dsimp only
    split_ifs with h1
    · exact .result rfl (by simp [transactions, h1]) _ _
    · exact .nothing
  | _ => exact .nothing

/-! ### What each part leaves unchanged -/

section Frames

variable (s : State) (i : Instr) (x : Transaction)

theorem State.perform_frame :
    s.perform x = { s with
      fq := (s.perform x).fq, trace := (s.perform x).trace, env := (s.perform x).env,
      draws := (s.perform x).draws } := by
  cases x <;> rfl

@[simp] theorem State.perform_qp : (s.perform x).qp = s.qp := by rw [State.perform_frame]
@[simp] theorem State.perform_qr : (s.perform x).qr = s.qr := by rw [State.perform_frame]
@[simp] theorem State.perform_res : (s.perform x).res = s.res := by rw [State.perform_frame]
@[simp] theorem State.perform_seq : (s.perform x).seq = s.seq := by rw [State.perform_frame]
@[simp] theorem State.perform_iwdgSt : (s.perform x).iwdgSt = s.iwdgSt := by rw [State.perform_frame]
@[simp] theorem State.perform_wwdgSt : (s.perform x).wwdgSt = s.wwdgSt := by rw [State.perform_frame]
@[simp] theorem State.perform_rlc : (s.perform x).rlc = s.rlc := by rw [State.perform_frame]
@[simp] theorem State.perform_wck : (s.perform x).wck = s.wck := by rw [State.perform_frame]

theorem State.internal_frame :
    s.internal i = { s with
      qp := (s.internal i).qp, qr := (s.internal i).qr, res := (s.internal i).res, rb := (s.internal i).rb,
      iwdgSt := (s.internal i).iwdgSt, wwdgSt := (s.internal i).wwdgSt, wck := (s.internal i).wck,
      rlc := (s.internal i).rlc, draws := (s.internal i).draws } := by
  have hwrites := s.internal_writes i
  generalize s.internal i = u at hwrites ⊢
  cases hwrites with
  | result _ _ _ v => cases v <;> rfl
  | _ => rfl

theorem State.moveOn_frame : s.moveOn i = { s with busy := (s.moveOn i).busy, seq := (s.moveOn i).seq } := by
  unfold State.moveOn
  split <;> rfl

/-- A transaction and its internal writes leave the parameters, the sequencer, the fault record and the port alone. -/
theorem State.performed_frame :
    s.performed i x = { s.performed i x with
      cfg := s.cfg, busy := s.busy, seq := s.seq, cmdr := s.cmdr, halt := s.halt, fault := s.fault, fcmd := s.fcmd,
      pending := s.pending, earlier := s.earlier, sched := s.sched } := by
  rw [State.performed, State.internal_frame, State.perform_frame]

@[simp] theorem State.performed_cfg : (s.performed i x).cfg = s.cfg := by rw [State.performed_frame]
@[simp] theorem State.performed_busy : (s.performed i x).busy = s.busy := by rw [State.performed_frame]
@[simp] theorem State.performed_seq : (s.performed i x).seq = s.seq := by rw [State.performed_frame]
@[simp] theorem State.performed_cmdr : (s.performed i x).cmdr = s.cmdr := by rw [State.performed_frame]
@[simp] theorem State.performed_halt : (s.performed i x).halt = s.halt := by rw [State.performed_frame]
@[simp] theorem State.performed_fault : (s.performed i x).fault = s.fault := by rw [State.performed_frame]
@[simp] theorem State.performed_fcmd : (s.performed i x).fcmd = s.fcmd := by rw [State.performed_frame]

@[simp] theorem State.moveOn_cfg : (s.moveOn i).cfg = s.cfg := by rw [State.moveOn_frame]
@[simp] theorem State.moveOn_cmdr : (s.moveOn i).cmdr = s.cmdr := by rw [State.moveOn_frame]
@[simp] theorem State.moveOn_halt : (s.moveOn i).halt = s.halt := by rw [State.moveOn_frame]
@[simp] theorem State.moveOn_fault : (s.moveOn i).fault = s.fault := by rw [State.moveOn_frame]
@[simp] theorem State.moveOn_fcmd : (s.moveOn i).fcmd = s.fcmd := by rw [State.moveOn_frame]
@[simp] theorem State.moveOn_trace : (s.moveOn i).trace = s.trace := by rw [State.moveOn_frame]

@[simp] theorem State.internal_trace : (s.internal i).trace = s.trace := by rw [State.internal_frame]

theorem State.moveOn_of_lt (h : s.seq.toNat + 1 < transactions i) : s.moveOn i = s.advance := if_pos h

theorem State.moveOn_of_last (h : transactions i ≤ s.seq.toNat + 1) : s.moveOn i = s.complete := if_neg (by omega)

end Frames

theorem moveOn_performed_of_lt {i : Instr} {s : State} (x : Transaction) (h : s.seq.toNat + 1 < transactions i) :
    (s.performed i x).moveOn i = (s.performed i x).advance :=
  State.moveOn_of_lt _ _ (by simpa using h)

theorem moveOn_performed_of_last {i : Instr} {s : State} (x : Transaction) (h : transactions i ≤ s.seq.toNat + 1) :
    (s.performed i x).moveOn i = (s.performed i x).complete :=
  State.moveOn_of_last _ _ (by simpa using h)

/-- A listed query or read names the environment's own answer. -/
theorem perform_trace_of_listed (i : Instr) (s : State) :
    ∀ x ∈ listed i s, (s.perform x).trace = s.trace ++ [x] := by
  cases i <;> simp [listed, State.perform, Env.freq, State.fieldValue, Fields.get]

/-- The transaction that `SEQ` names joins the trace. -/
theorem performed_trace {i : Instr} {s : State} {x : Transaction} (hx : named i s = some x) :
    (s.performed i x).trace = s.trace ++ [x] := by
  rw [State.performed, State.internal_trace, perform_trace_of_listed i s x (List.mem_of_getElem? hx)]

theorem named_sched (i : Instr) (s : State) (q : List Event) : named i { s with sched := q } = named i s := by
  cases i <;> rfl

/-- The four forms of a step that is no reset (`step_leaves`), each up to the environment, the count of the free values
and the schedule. -/
theorem step_forms {s t : State} (h : step s = .next t) (hr : resetTurn s = false) :
    (∃ i q u e n, running s = some i ∧ s.halt = false ∧ s.busy = true ∧ wdgqTurn s = true ∧
      decode s.cfg.caps s.cmdr = .ok i ∧ exec i { s with sched := q } = .next u ∧ t = { u with env := e, draws := n }) ∨
    (s.halt = false ∧ s.busy = true ∧ wdgqTurn s = true ∧ (∃ e, decode s.cfg.caps s.cmdr = .error e) ∧
      ∃ e n q, t = { s.raise .illcmd with env := e, draws := n, sched := q }) ∨
    (s.halt = false ∧ s.busy = false ∧ ∃ w rest e n q, t = { s.accept w rest with env := e, draws := n, sched := q }) ∨
    (∃ p e n q, t = { s with pending := p, env := e, draws := n, sched := q }) := by
  refine (step_leaves h hr).imp_left ?_
  rintro ⟨s₀, i, u, hs₀, hrun, hh, hb, hturn, hdec, hu, ht⟩
  refine ⟨i, s₀.sched, u, t.env, t.draws, hrun, hh, hb, hturn, hdec, hs₀ ▸ hu, ?_⟩
  obtain rfl | ⟨ws, rfl⟩ := ht
  · rfl
  · exact State.interfered_frame ..

end Sys2Proof.Machine
end

section
/-! Who writes what (10_state.md R11 to R18, R21): the registers that a transaction writes change only by the internal
writes of the command in progress, the fault record only by fault entry, the parameters never. -/

namespace Sys2Proof.Machine

/-- `p` looks at registers that only the internal writes of a transaction and a reset can change. -/
structure Internal {α : Type} (p : State → α) : Prop where
  raise : ∀ s code, p (State.raise s code) = p s
  accept : ∀ s w rest, p (State.accept s w rest) = p s
  sequencer : ∀ (s : State) b k, p { s with busy := b, seq := k } = p s
  outside : ∀ (s : State) ws e n q, p { s with pending := ws, env := e, draws := n, sched := q } = p s

/-- Such a register changes only in a transaction of the command in progress, to what its rule writes there. -/
theorem step_internal {α : Type} {p : State → α} (hp : Internal p) {s t : State} (h : step s = .next t)
    (hr : resetTurn s = false) :
    p t = p s ∨ ∃ i q x, running s = some i ∧ named i s = some x ∧
      p t = p (State.performed { s with sched := q } i x) ∧ (transactions i ≤ s.seq.toNat + 1 → t.busy = false) := by
  obtain ⟨i, q, u, e, n, hrun, -, -, -, -, hu, rfl⟩ | ⟨-, -, -, -, e, n, q, rfl⟩ | ⟨-, -, w, rest, e, n, q, rfl⟩ |
    ⟨ws, e, n, q, rfl⟩ := step_forms h hr
  · obtain ⟨x, hx, hxu⟩ := exec_inv hu
    have hpu := hp.outside u u.pending e n u.sched
    cases hxu with
    | seqerr => exact .inl (hpu.trans ((hp.raise _ _).trans (hp.outside s s.pending s.env s.draws q)))
    | wzero => exact .inr ⟨i, q, x, hrun, named_sched i s q ▸ hx, hpu.trans (hp.raise _ _), fun _ => rfl⟩
    | moves =>
      refine .inr ⟨i, q, x, hrun, named_sched i s q ▸ hx, ?_, fun hlast => ?_⟩
      · rw [hpu, State.moveOn_frame, hp.sequencer]
      · rw [moveOn_performed_of_last (s := { s with sched := q }) x hlast]
        rfl
  · exact .inl ((hp.outside _ s.pending e n q).trans (hp.raise s _))
  · exact .inl ((hp.outside _ rest e n q).trans (hp.accept s w rest))
  · exact .inl (hp.outside s ws e n q)

/-! ### What one transaction leaves in each register -/

/-- The internal writes of the transaction `x`, from a state with the registers of `s`. -/
theorem performed_writes (i : Instr) (s : State) (x : Transaction) : Writes i (s.perform x) (s.performed i x) :=
  (s.perform x).internal_writes i

theorem performed_pair {i : Instr} {s : State} {x : Transaction} (hx : named i s = some x) :
    ((s.performed i x).qp = s.qp ∧ (s.performed i x).qr = s.qr) ∨ (quantizes i = true ∧ s.seq = 0#3) := by
  have hlt := seq_lt_of_named hx
  have hwrites := performed_writes i s x
  generalize s.performed i x = u at hwrites ⊢
  cases hwrites with
  | pair _ hi hs =>
    refine .inr ⟨hi, (seq_eq_zero_iff s).2 ?_⟩
    obtain hone | hseq := hs
    · omega
    · simpa using congrArg BitVec.toNat hseq
  | _ => exact .inl (by simp)

theorem performed_res (i : Instr) (s : State) (x : Transaction) :
    (s.performed i x).res = s.res ∨ (decodes i = true ∧ transactions i ≤ s.seq.toNat + 1) := by
  have hwrites := performed_writes i s x
  generalize s.performed i x = u at hwrites ⊢
  cases hwrites with
  | result hi hs => exact .inr ⟨hi, by simpa using hs⟩
  | _ => exact .inl (by simp)

theorem performed_iwdgSt (i : Instr) (s : State) (x : Transaction) :
    (s.performed i x).iwdgSt = s.iwdgSt ∨
      ((s.performed i x).iwdgSt = .running ∧ (∃ d, i = .iwStart d) ∧ transactions i ≤ s.seq.toNat + 1) := by
  have hwrites := performed_writes i s x
  generalize s.performed i x = u at hwrites ⊢
  cases hwrites with
  | iwdg d hi hs => exact .inr ⟨rfl, ⟨d, hi⟩, by simpa using hs⟩
  | _ => exact .inl (by simp)

theorem performed_wwdgSt (i : Instr) (s : State) (x : Transaction) :
    (s.performed i x).wwdgSt = s.wwdgSt ∨
      ((s.performed i x).wwdgSt = .running ∧ (∃ d, i = .wwStart d) ∧ transactions i ≤ s.seq.toNat + 1) := by
  have hwrites := performed_writes i s x
  generalize s.performed i x = u at hwrites ⊢
  cases hwrites with
  | wwdg d hi hs => exact .inr ⟨rfl, ⟨d, hi⟩, by simpa using hs⟩
  | _ => exact .inl (by simp)

theorem performed_wck (i : Instr) (s : State) (x : Transaction) :
    (s.performed i x).wck = s.wck ∨
      ((s.performed i x).wck = true ∧ i = .wwNew ∧ transactions i ≤ s.seq.toNat + 1) := by
  have hwrites := performed_writes i s x
  generalize s.performed i x = u at hwrites ⊢
  cases hwrites with
  | wck hi hs => exact .inr ⟨rfl, hi, by simpa using hs⟩
  | _ => exact .inl (by simp)

/-! ### The obligations -/

/-- Settles O11: of the internal writes only those of a quantization, in the first transaction, change the pair. -/
theorem onlyQuantizingCommandsWriteThePair : Obligations.OnlyQuantizingCommandsWriteThePair := by
  intro s t h hr
  have hp : Internal fun u => (u.qp, u.qr) :=
    ⟨fun _ _ => rfl, fun _ _ _ => rfl, fun _ _ _ => rfl, fun _ _ _ _ _ => rfl⟩
  obtain hsame | ⟨i, q, x, hrun, hx, ht, -⟩ := step_internal hp h hr
  · exact .inl (Prod.mk.inj hsame)
  · obtain ⟨hqp, hqr⟩ := Prod.mk.inj ht
    obtain ⟨hqp', hqr'⟩ | ⟨hi, hs⟩ := performed_pair ((named_sched i s q).trans hx)
    · exact .inl ⟨hqp.trans hqp', hqr.trans hqr'⟩
    · exact .inr ⟨i, hrun, hi, hs⟩

/-- A register that only the last transaction of certain commands writes changes only where one of them completes. -/
theorem step_at_completion {α : Type} {p : State → α} (hp : Internal p) {written : α → Prop} {writer : Instr → Prop}
    (hset : ∀ i s x, p (State.performed s i x) = p s ∨
      (written (p (s.performed i x)) ∧ writer i ∧ transactions i ≤ s.seq.toNat + 1))
    {s t : State} (h : step s = .next t) (hr : resetTurn s = false) :
    p t = p s ∨ (written (p t) ∧ t.busy = false ∧ ∃ i, running s = some i ∧ writer i) := by
  obtain hsame | ⟨i, q, x, hrun, -, ht, hlast⟩ := step_internal hp h hr
  · exact .inl hsame
  · have hq : p { s with sched := q } = p s := hp.outside s s.pending s.env s.draws q
    obtain hkept | ⟨hwritten, hwriter, hs⟩ := hset i { s with sched := q } x
    · exact .inl (ht.trans (hkept.trans hq))
    · exact .inr ⟨ht ▸ hwritten, hlast hs, i, hrun, hwriter⟩

/-- Settles O12: of the internal writes only those of a decode, in the last transaction, change the result. -/
theorem onlyDecodingCommandsWriteTheResult : Obligations.OnlyDecodingCommandsWriteTheResult := by
  intro s t h hr
  have hp : Internal State.res := ⟨fun _ _ => rfl, fun _ _ _ => rfl, fun _ _ _ => rfl, fun _ _ _ _ _ => rfl⟩
  have hset (i : Instr) (s : State) (x : Transaction) := (performed_res i s x).imp_right (And.intro trivial)
  obtain hsame | ⟨-, hb, i, hrun, hi⟩ := step_at_completion hp (written := fun _ => True) hset h hr
  · exact .inl hsame
  · exact .inr ⟨i, hrun, hi, hb⟩

/-- Settles O14: each state bit is set by the internal writes of one command's last transaction alone. -/
theorem stateBitsAreOneWay : Obligations.StateBitsAreOneWay := by
  intro s t h hr
  have hiwdg : Internal State.iwdgSt := ⟨fun _ _ => rfl, fun _ _ _ => rfl, fun _ _ _ => rfl, fun _ _ _ _ _ => rfl⟩
  have hwwdg : Internal State.wwdgSt := ⟨fun _ _ => rfl, fun _ _ _ => rfl, fun _ _ _ => rfl, fun _ _ _ _ _ => rfl⟩
  have hwck : Internal State.wck := ⟨fun _ _ => rfl, fun _ _ _ => rfl, fun _ _ _ => rfl, fun _ _ _ _ _ => rfl⟩
  refine ⟨(step_at_completion hiwdg (written := (· = .running)) performed_iwdgSt h hr).imp_right ?_,
    (step_at_completion hwwdg (written := (· = .running)) performed_wwdgSt h hr).imp_right ?_,
    (step_at_completion hwck (written := (· = true)) performed_wck h hr).imp_right ?_⟩
  · rintro ⟨hset, hb, i, hrun, d, rfl⟩
    exact ⟨hset, hb, d, hrun⟩
  · rintro ⟨hset, hb, i, hrun, d, rfl⟩
    exact ⟨hset, hb, d, hrun⟩
  · rintro ⟨hset, hb, i, hrun, rfl⟩
    exact ⟨hset, hb, hrun⟩

/-! ### The fault record and the parameters -/

/-- A fault is recorded in `t`, with the word that was in progress in `s`, and `t` is idle (60_exceptions.md R94). -/
def FaultEntered (s t : State) : Prop :=
  t.halt = true ∧ t.fault ≠ .none ∧ t.fcmd = s.cmdr ∧ t.busy = false ∧ t.seq = 0#3

/-- A command's transaction leaves the fault record alone or enters a fault. -/
theorem exec_fault {i : Instr} {s t : State} (h : exec i s = .next t) :
    (t.halt = s.halt ∧ t.fault = s.fault ∧ t.fcmd = s.fcmd) ∨ FaultEntered s t := by
  obtain ⟨x, -, hxt⟩ := exec_inv h
  cases hxt with
  | seqerr => exact .inr ⟨rfl, nofun, rfl, rfl, rfl⟩
  | wzero => exact .inr ⟨rfl, nofun, by simp, rfl, rfl⟩
  | moves => exact .inl (by simp)

/-- Settles O15: of a step's four forms only a transaction and the refusal of an illegal word can enter a fault. -/
theorem faultRecordIsSticky : Obligations.FaultRecordIsSticky := by
  intro s t h hr
  obtain ⟨i, q, u, e, n, -, hh, hb, hturn, -, hu, rfl⟩ | ⟨hh, hb, hturn, -, e, n, q, rfl⟩ |
    ⟨-, -, w, rest, e, n, q, rfl⟩ | ⟨ws, e, n, q, rfl⟩ := step_forms h hr
  · exact (exec_fault hu).imp id fun hf => ⟨hh, hb, hturn, hf⟩
  · exact .inr ⟨hh, hb, hturn, rfl, nofun, rfl, rfl, rfl⟩
  · exact .inl ⟨rfl, rfl, rfl⟩
  · exact .inl ⟨rfl, rfl, rfl⟩

/-- A reset, when it is the next event. -/
theorem step_of_resetTurn {s t : State} (h : step s = .next t) (hr : resetTurn s = true) :
    ∃ rest, t = State.resetNow { s with sched := rest } := by
  obtain ⟨rest, hs⟩ := (resetTurn_iff s).1 hr
  simp only [step, nextMove, hs] at h
  cases h
  exact ⟨rest, rfl⟩

theorem step_cfg {s t : State} (h : step s = .next t) : t.cfg = s.cfg := by
  cases hr : resetTurn s with
  | true =>
    obtain ⟨rest, rfl⟩ := step_of_resetTurn h hr
    rfl
  | false =>
    obtain ⟨i, q, u, e, n, -, -, -, -, -, hu, rfl⟩ | ⟨-, -, -, -, e, n, q, rfl⟩ | ⟨-, -, w, rest, e, n, q, rfl⟩ |
      ⟨ws, e, n, q, rfl⟩ := step_forms h hr
    · obtain ⟨-, hcfg, -⟩ := exec_keeps hu
      exact hcfg
    · rfl
    · rfl
    · rfl

/-- Settles O16: the capability register is hardwired from the parameters, which every step keeps. -/
theorem parametersNeverChange : Obligations.ParametersNeverChange := by
  intro s t h
  exact ⟨step_cfg h, by rw [State.cap, State.cap, step_cfg h]⟩

end Sys2Proof.Machine
end

section
/-! The invariant of the machine (`Invariant`): the reset state has it and every step of every agent keeps it. The one
long part is a transaction of the command in progress: what it may write (10_state.md R22, R23, 42_wwdg.md R85) rests on
the range of the quantizer, and what its registers hold on the transactions before it. -/

namespace Sys2Proof.Machine

/-! ### The range of the quantizer (40_quantizer.md R57) -/

theorem halve_index_le (q : Instantiation) (k : Nat) (p : BitVec 3) (n : Result) (hp : p ≤ q.pmax) :
    (halve q k p n).1 ≤ q.pmax := by
  induction k generalizing p n with
  | zero => exact hp
  | succ k ih =>
    unfold halve
    split
    next hmore => exact ih _ _ (by bv_omega)
    next => exact hp

theorem quantize_index_le (q : Instantiation) (d : Duration) (f : Freq) : (quantize q d f).1.toNat ≤ q.pmax.toNat :=
  halve_index_le q _ _ _ (by bv_omega)

theorem quantize_count_le (q : Instantiation) (d : Duration) (f : Freq) : (quantize q d f).2.toNat ≤ q.rmax.toNat := by
  unfold quantize saturate
  dsimp only
  split
  next => exact le_rfl
  next hfit =>
    generalize (halve q q.pmax.toNat 0#3 (cycles q d f)).2 = n at hfit ⊢
    have hle : n.toNat ≤ q.rmax.toNat := by bv_omega
    exact (Nat.mod_le ..).trans hle

/-- The window watchdog's count fits its 6 bits. -/
theorem setWidth_setWidth_count (c : Config) (d : Duration) (f : Freq) :
    ((quantize (instW c) d f).2.setWidth 6).setWidth 12 = (quantize (instW c) d f).2 := by
  have hle : (quantize (instW c) d f).2.toNat ≤ 63 := quantize_count_le (instW c) d f
  generalize (quantize (instW c) d f).2 = r at hle ⊢
  bv_omega

/-! ### The transactions of one command -/

/-- Every transaction a command's rule lists is one WDGQ may emit, once `WW.SETWIN` has found a count
other than zero. -/
theorem legal_of_named {i : Instr} {s : State} {x : Transaction} (hx : named i s = some x)
    (hin : s.seq ≠ 0#3 → InFlight s i) : legal s.cfg x := by
  have hmem : x ∈ listed i s := List.mem_of_getElem? hx
  cases i with
  | wwSetwin d =>
    by_cases hs : s.seq = 0#3
    · obtain rfl : Transaction.clkQuery .pclk s.env.pclk = x := by simpa [named, listed, hs] using hx
      trivial
    · obtain ⟨hpair, hqr, -⟩ := hin hs
      simp only [listed, List.mem_cons, List.not_mem_nil, or_false] at hmem
      obtain rfl | rfl | rfl := hmem
      · trivial
      · exact quantize_index_le ..
      · have hcount : s.qr = (quantize (instW s.cfg) d s.fq).2 := congrArg Prod.snd hpair
        refine ⟨(quantize (instW s.cfg) d s.fq).2.setWidth 6, fun hzero => hqr ?_, ?_⟩
        · rw [hcount, ← setWidth_setWidth_count, hzero]
          rfl
        · rw [setWidth_setWidth_count]
          rfl
  | iwStart d =>
    simp only [listed, List.mem_cons, List.not_mem_nil, or_false] at hmem
    obtain rfl | rfl | rfl | rfl | rfl | rfl := hmem
    · trivial
    · exact .inl rfl
    · exact quantize_index_le instI d s.fq
    · exact quantize_count_le instI d s.fq
    · exact .inr (.inl rfl)
    · exact .inr (.inr rfl)
  | wwStart d =>
    simp only [listed, List.mem_cons, List.not_mem_nil, or_false] at hmem
    obtain rfl | rfl | rfl | rfl := hmem
    · trivial
    · exact quantize_index_le ..
    · exact ⟨s.rlc, rfl⟩
    · rfl
  | wwFeed =>
    obtain rfl := List.mem_singleton.1 hmem
    exact ⟨s.rlc, rfl⟩
  | qntI d | qntW d | decI | decW =>
    obtain rfl := List.mem_singleton.1 hmem
    trivial
  | iwFeed =>
    obtain rfl := List.mem_singleton.1 hmem
    exact .inr (.inl rfl)
  | iwIval =>
    simp only [listed, List.mem_cons, List.not_mem_nil, or_false] at hmem
    obtain rfl | rfl | rfl := hmem
    · trivial
    · exact .inl rfl
    · exact .inr (.inl rfl)
  | iwDbg stop =>
    obtain rfl := List.mem_singleton.1 hmem
    trivial
  | wwNew =>
    obtain rfl := List.mem_singleton.1 hmem
    rfl
  | wwIval =>
    simp only [listed, List.mem_cons, List.not_mem_nil, or_false] at hmem
    obtain rfl | rfl := hmem
    · trivial
    · exact .inr (.inr rfl)
  | wwEwi enabled =>
    simp only [listed, List.mem_cons, List.not_mem_nil, or_false] at hmem
    obtain rfl | rfl := hmem <;> trivial

/-- A transaction of a command other than `IW.START` leaves a closed unlock scope closed. -/
theorem scopeAfter_listed {i : Instr} (hi : ∀ d, i ≠ .iwStart d) (s : State) :
    ∀ x ∈ listed i s, scopeAfter .closed x = some .closed := by
  cases i with
  | iwStart d => exact absurd rfl (hi d)
  | _ => simp [listed, scopeAfter, scopeKey, keyFeed, keyUnlock]

/-- Only the operation code 0x10 decodes to `IW.START`: every other branch of the decoder answers another command. -/
theorem opOf_eq_iff_of_decode {c : Caps} {w : Command} {i : Instr} (h : decode c w = .ok i) :
    opOf w = 0x10#8 ↔ ∃ d, i = .iwStart d := by
  constructor
  · intro hop
    simp only [decode, hop] at h
    exact ⟨argOf w, (Except.ok.inj h).symm⟩
  · rintro ⟨d, rfl⟩
    by_contra hop
    simp [decode, formN, formB, ifCap, ite_eq_iff, hop] at h

/-- Where `inScope` puts the unlock scope. -/
def State.scope (s : State) : Scope := if inScope s then .opened else .closed

theorem scope_of_idle {s : State} (hb : s.busy = false) : s.scope = .closed := by
  simp [State.scope, inScope, hb]

theorem scope_of_seq_zero {s : State} (hs : s.seq = 0#3) : s.scope = .closed := by
  simp [State.scope, inScope, hs]

theorem scope_of_decode {s : State} {i : Instr} (hd : decode s.cfg.caps s.cmdr = .ok i) (hi : ∀ d, i ≠ .iwStart d) :
    s.scope = .closed := by
  have hop : opOf s.cmdr ≠ 0x10#8 := fun hop => by
    obtain ⟨d, hid⟩ := (opOf_eq_iff_of_decode hd).1 hop
    exact hi d hid
  simp [State.scope, inScope, hop]

/-- The scope moves with the sequencer: the unlock key opens it, the refresh key closes it (41_iwdg.md R75). -/
theorem scopeAfter_moveOn {i : Instr} {s : State} {x : Transaction} (hx : named i s = some x) (hb : s.busy = true)
    (hd : decode s.cfg.caps s.cmdr = .ok i) :
    scopeAfter s.scope x = some ((s.performed i x).moveOn i).scope := by
  by_cases hi : ∃ d, i = .iwStart d
  · have hop := (opOf_eq_iff_of_decode hd).2 hi
    obtain ⟨d, rfl⟩ := hi
    have hlt : s.seq.toNat < 6 := seq_lt_of_named hx
    have hs : s.seq = BitVec.ofNat 3 s.seq.toNat := by simp
    interval_cases s.seq.toNat
    all_goals
      obtain rfl : _ = x := by simpa [named, listed, hs] using hx
      simp [State.scope, inScope, State.moveOn, transactions, scopeAfter, scopeKey, scopeInside, keyUnlock, keyFeed,
        keyStart, hop, hb, hs]
  · push Not at hi
    rw [scope_of_decode hd hi, scope_of_decode (by simpa using hd) hi]
    exact scopeAfter_listed hi s x (List.mem_of_getElem? hx)

/-! ### The registers of a command in progress -/

/-- Only a first transaction is a query: the later ones leave the latched frequency alone. -/
theorem performed_fq {i : Instr} {s : State} {x : Transaction} (hx : named i s = some x) (hs : s.seq ≠ 0#3) :
    (s.performed i x).fq = s.fq := by
  have htail : ∀ y ∈ (listed i s).tail, (s.perform y).fq = s.fq := by
    cases i <;> simp [listed, State.perform]
  obtain ⟨k, hk⟩ := Nat.exists_eq_succ_of_ne_zero (mt (seq_eq_zero_iff s).2 hs)
  rw [State.performed, State.internal_frame]
  exact htail x (List.mem_of_getElem? (i := k) (by rwa [named, hk, ← List.getElem?_tail] at hx))

/-- Only a first transaction writes the pair. -/
theorem performed_pair_later {i : Instr} {s : State} {x : Transaction} (hx : named i s = some x) (hs : s.seq ≠ 0#3) :
    (s.performed i x).qp = s.qp ∧ (s.performed i x).qr = s.qr :=
  (performed_pair hx).resolve_right fun ⟨_, hs0⟩ => hs hs0

/-- Only transaction [1] of `WW.START` writes the cached reload. -/
theorem performed_rlc {i : Instr} {s : State} (x : Transaction) (hs : s.seq ≠ 1#3) :
    (s.performed i x).rlc = s.rlc := by
  have hwrites := performed_writes i s x
  generalize s.performed i x = u at hwrites ⊢
  cases hwrites with
  | reload _ _ _ h1 => exact absurd (by simpa using h1) hs
  | _ => simp

/-- Only `WW.NEW` writes `WCK`. -/
theorem performed_wck_of_ne (i : Instr) (s : State) (x : Transaction) (hi : i ≠ .wwNew) :
    (s.performed i x).wck = s.wck :=
  (performed_wck i s x).resolve_right fun ⟨_, hnew, _⟩ => hi hnew

/-- What the registers hold after the first transaction of a command that no check has ended. -/
theorem inFlight_of_first {i : Instr} {s : State} {x : Transaction} (hx : named i s = some x) (hs : s.seq = 0#3)
    (hw : needsWck i = true → s.wck = true)
    (hz : ∀ d, i = .wwSetwin d → (quantize (instW s.cfg) d s.env.pclk).2 ≠ 0#12) :
    InFlight (s.performed i x).advance i := by
  cases i with
  | iwStart d =>
    obtain rfl : Transaction.clkQuery .lsi s.env.lsi = x := by simpa [named, listed, hs] using hx
    simp [InFlight, State.performed, State.perform, State.internal, hs, State.pairFor]
  | wwSetwin d =>
    obtain rfl : Transaction.clkQuery .pclk s.env.pclk = x := by simpa [named, listed, hs] using hx
    refine ⟨?_, ?_, (performed_wck_of_ne (.wwSetwin d) s _ nofun).trans (hw rfl)⟩
    · simp [State.performed, State.perform, State.internal, hs, State.pairFor]
    · simp only [State.performed, State.internal, State.perform_seq, hs, ite_true]
      exact hz d rfl
  | wwStart d =>
    obtain rfl : Transaction.clkQuery .pclk s.env.pclk = x := by simpa [named, listed, hs] using hx
    refine ⟨?_, (performed_wck_of_ne (.wwStart d) s _ nofun).trans (hw rfl), by simp [hs]⟩
    simp [State.performed, State.perform, State.internal, hs, State.pairFor]
  | wwIval => exact (performed_wck_of_ne .wwIval s x nofun).trans (hw rfl)
  | wwEwi enabled => exact (performed_wck_of_ne (.wwEwi enabled) s x nofun).trans (hw rfl)
  | _ => trivial

/-- What the registers hold after a later transaction: what they held before it, and from transaction [1] of `WW.START`
on the cached reload. -/
theorem inFlight_of_later {i : Instr} {s : State} {x : Transaction} (hx : named i s = some x) (hs : s.seq ≠ 0#3)
    (hin : InFlight s i) : InFlight (s.performed i x).advance i := by
  have hfq := performed_fq hx hs
  obtain ⟨hqp, hqr⟩ := performed_pair_later hx hs
  cases i with
  | iwStart d => simpa [InFlight, hfq, hqp, hqr] using hin
  | wwSetwin d => simpa [InFlight, hfq, hqp, hqr, performed_wck_of_ne] using hin
  | wwStart d =>
    obtain ⟨hpair, hwck, hrlc⟩ := hin
    refine ⟨by simpa [hfq, hqp, hqr] using hpair, (performed_wck_of_ne (.wwStart d) s x nofun).trans hwck, fun _ => ?_⟩
    rw [State.advance_rlc, State.advance_qr, hqr]
    by_cases h1 : s.seq = 1#3
    · obtain rfl : Transaction.memWrite .wdgtb (quantize (instW s.cfg) d s.fq).1 = x := by
        simpa [named, listed, h1] using hx
      have hcount : s.qr = (quantize (instW s.cfg) d s.fq).2 := congrArg Prod.snd hpair
      simp [hcount, State.performed, State.perform, State.internal, State.pairFor, h1]
    · rw [performed_rlc x h1]
      exact hrlc (by bv_omega)
  | wwIval => exact (performed_wck_of_ne .wwIval s x nofun).trans hin
  | wwEwi enabled => exact (performed_wck_of_ne (.wwEwi enabled) s x nofun).trans hin
  | _ => trivial

/-! ### The invariant -/

theorem Invariant.scopeOf_trace {s : State} (h : Invariant s) : scopeOf s.trace = some s.scope := h.scope

theorem Invariant.fault_none {s : State} (h : Invariant s) (hh : s.halt = false) : s.fault = .none := by
  by_contra hf
  rw [h.halt_fault.2 hf] at hh
  cases hh

/-- The command in progress, once it has performed a transaction, is the one `CMDR` decodes to. -/
theorem Invariant.inFlight {s : State} {i : Instr} (h : Invariant s) (hb : s.busy = true)
    (hd : decode s.cfg.caps s.cmdr = .ok i) (hs : s.seq ≠ 0#3) : s.seq.toNat < transactions i ∧ InFlight s i := by
  obtain ⟨j, hj, hlt, hin⟩ := h.progress hb hs
  obtain rfl : j = i := Except.ok.inj (hj.symm.trans hd)
  exact ⟨hlt, hin⟩

/-- No part of the invariant looks at the port's words, the environment, the free values or the schedule. -/
theorem Invariant.outside {s : State} (h : Invariant s) (ws : List Command) (e : Env) (n : Nat) (q : List Event) :
    Invariant { s with pending := ws, env := e, draws := n, sched := q } where
  halt_fault := h.halt_fault
  halt_idle := h.halt_idle
  idle_seq := h.idle_seq
  progress := fun hb hs => by
    obtain ⟨i, hd, hlt, hin⟩ := h.progress hb hs
    exact ⟨i, hd, hlt, by cases i <;> exact hin⟩
  scope := h.scope
  legal_trace := h.legal_trace

theorem Invariant.accept {s : State} (h : Invariant s) (hh : s.halt = false) (hb : s.busy = false) (w : Command)
    (rest : List Command) : Invariant (s.accept w rest) where
  halt_fault := h.halt_fault
  halt_idle := fun hh' => absurd hh' (by simp [hh])
  idle_seq := fun _ => rfl
  progress := fun _ hs => absurd rfl hs
  scope := by
    have hscope := h.scopeOf_trace
    rw [scope_of_idle hb] at hscope
    exact hscope.trans (congrArg some (scope_of_seq_zero rfl).symm)
  legal_trace := h.legal_trace

/-- Fault entry keeps the invariant where the unlock scope is closed (60_exceptions.md R97). -/
theorem Invariant.of_raise {s : State} {code : FaultCode} (hcode : code ≠ .none)
    (hscope : scopeOf s.trace = some .closed) (hlegal : ∀ x ∈ s.trace, legal s.cfg x) : Invariant (s.raise code) where
  halt_fault := ⟨fun _ => hcode, fun _ => rfl⟩
  halt_idle := fun _ => rfl
  idle_seq := fun _ => rfl
  progress := fun hb => nomatch hb
  scope := hscope.trans (congrArg some (scope_of_idle rfl).symm)
  legal_trace := hlegal

theorem invariant_drawn (c : Config) (n : Nat) : Invariant (State.drawn c n) where
  halt_fault := ⟨nofun, fun h => absurd rfl h⟩
  halt_idle := nofun
  idle_seq := fun _ => rfl
  progress := nofun
  scope := congrArg some (scope_of_idle rfl).symm
  legal_trace := nofun

/-- The transactions emitted stay legal with one more. -/
theorem Invariant.legal_append {s u : State} {i : Instr} {x : Transaction} (h : Invariant s) (hx : named i s = some x)
    (hin : s.seq ≠ 0#3 → InFlight s i) (hcfg : u.cfg = s.cfg) (htrace : u.trace = s.trace ++ [x]) :
    ∀ y ∈ u.trace, legal u.cfg y := by
  intro y hy
  rw [hcfg]
  rw [htrace, List.mem_append, List.mem_singleton] at hy
  obtain hy | rfl := hy
  · exact h.legal_trace y hy
  · exact legal_of_named hx hin

/-- A transaction of the command in progress keeps the invariant. -/
theorem Invariant.exec {s u : State} {i : Instr} (h : Invariant s) (hh : s.halt = false) (hb : s.busy = true)
    (hd : decode s.cfg.caps s.cmdr = .ok i) (hu : exec i s = .next u) : Invariant u := by
  obtain ⟨x, hx, hxu⟩ := exec_inv hu
  have hin : s.seq ≠ 0#3 → InFlight s i := fun hs => (h.inFlight hb hd hs).2
  have hlegal : ∀ y ∈ (s.performed i x).trace, legal (s.performed i x).cfg y :=
    h.legal_append hx hin (by simp) (performed_trace hx)
  cases hxu with
  | seqerr _ hs _ =>
    have hscope := h.scopeOf_trace
    rw [scope_of_seq_zero hs] at hscope
    exact .of_raise nofun hscope h.legal_trace
  | wzero d hi hs =>
    have hscope : scopeOf (s.performed i x).trace = some .closed := by
      rw [performed_trace hx, scopeOf_append, h.scopeOf_trace, scope_of_seq_zero hs]
      exact scopeAfter_listed (by simp [hi]) s x (List.mem_of_getElem? hx)
    exact .of_raise nofun hscope hlegal
  | moves hw hz =>
    exact {
      halt_fault := by simp [hh, h.fault_none hh]
      halt_idle := by simp [hh]
      idle_seq := fun hidle => by
        obtain hlt | hlast := lt_or_ge (s.seq.toNat + 1) (transactions i)
        · rw [moveOn_performed_of_lt x hlt] at hidle
          simp [hb] at hidle
        · rw [moveOn_performed_of_last x hlast]
          rfl
      progress := fun hbusy _ => by
        obtain hlt | hlast := lt_or_ge (s.seq.toNat + 1) (transactions i)
        · rw [moveOn_performed_of_lt x hlt]
          have hsix := transactions_le_six i
          refine ⟨i, by simpa using hd, ?_, ?_⟩
          · rw [State.advance_seq, State.performed_seq]
            bv_omega
          · by_cases hs : s.seq = 0#3
            · exact inFlight_of_first hx hs (hw · hs) (hz · · hs)
            · exact inFlight_of_later hx hs (hin hs)
        · rw [moveOn_performed_of_last x hlast] at hbusy
          cases hbusy
      scope := by
        have hscope := scopeAfter_moveOn hx hb hd
        rw [State.moveOn_trace, performed_trace hx, scopeOf_append, h.scopeOf_trace]
        exact hscope
      legal_trace := by simpa using hlegal }

/-- Settles O30: after a reset nothing is in progress and nothing has been emitted. -/
theorem invariantHoldsAtReset : Obligations.InvariantHoldsAtReset :=
  ⟨invariant_drawn _ _, invariant_drawn⟩

/-- A reset starts the invariant anew, whatever was in progress. -/
theorem invariant_resetNow (s : State) : Invariant s.resetNow :=
  have h := invariant_drawn s.cfg s.draws
  { h with }

/-- Settles O31: each of the four forms of a step keeps the invariant, and so does a reset. -/
theorem everyStepKeepsTheInvariant : Obligations.EveryStepKeepsTheInvariant := by
  intro s t h hstep
  cases hr : resetTurn s with
  | true =>
    obtain ⟨rest, rfl⟩ := step_of_resetTurn hstep hr
    exact invariant_resetNow _
  | false =>
    obtain ⟨i, q, u, e, n, -, hh, hb, -, hd, hu, rfl⟩ | ⟨hh, hb, -, ⟨err, herr⟩, e, n, q, rfl⟩ |
      ⟨hh, hb, w, rest, e, n, q, rfl⟩ | ⟨ws, e, n, q, rfl⟩ := step_forms hstep hr
    · exact ((h.outside s.pending s.env s.draws q).exec hh hb hd hu).outside u.pending e n u.sched
    · have hs : s.seq = 0#3 := by
        by_contra hs
        obtain ⟨i, hd, -, -⟩ := h.progress hb hs
        cases herr.symm.trans hd
      have hscope := h.scopeOf_trace
      rw [scope_of_seq_zero hs] at hscope
      exact (Invariant.of_raise (code := .illcmd) nofun hscope h.legal_trace).outside s.pending e n q
    · exact (h.accept hh hb w rest).outside rest e n q
    · exact h.outside ws e n q

end Sys2Proof.Machine
end

section
/-! No command stops before its end (10_state.md R13), and a busy block is soon idle (70_reset_and_hazards.md R127). -/

namespace Sys2Proof.Machine

/-- Up to its last transaction no command stops. -/
theorem exec_next_of_lt {i : Instr} {s : State} (h : s.seq.toNat < transactions i) : ∃ t, exec i s = .next t := by
  obtain ⟨x, hx⟩ := exists_named_of_lt h
  obtain ⟨t, ht, -⟩ := exec_of_named hx
  exact ⟨t, ht⟩

/-- Settles O33: the outcome of the transaction that `SEQ` names, by the three cases of `Transacts`. -/
theorem everyTransactionOfEveryCommandCompletes : Obligations.EveryTransactionOfEveryCommandCompletes := by
  intro i s
  refine ⟨exec_next_of_lt, fun hlt hw => ?_, exec_stops⟩
  obtain ⟨x, hx⟩ := exists_named_of_lt hlt
  obtain ⟨t, ht, hxt⟩ := exec_of_named hx
  refine ⟨t, x, ht, hx, ?_⟩
  cases hxt with
  | seqerr hi hs hw' => exact absurd (hw hi hs) (by simp [hw'])
  | wzero d hi hs _ hz => exact ⟨performed_trace hx, fun hcount => absurd hz (hcount d hi hs)⟩
  | moves =>
    refine ⟨(State.moveOn_trace ..).trans (performed_trace hx),
      fun _ => ⟨by simp, by simp, by simp, fun h => ?_, fun h => ?_⟩⟩
    · rw [moveOn_performed_of_lt x h]
      simp
    · rw [moveOn_performed_of_last x h.ge]
      exact ⟨rfl, rfl⟩

/-- From a state with the invariant a step of WDGQ goes on. -/
theorem Invariant.wdgqStep_next {s : State} (h : Invariant s) : ∃ t, wdgqStep s = .next t := by
  obtain ⟨-, hs⟩ | ⟨-, hb, i, hd, hs⟩ | ⟨-, -, -, hs⟩ | ⟨-, -, -, hs⟩ | ⟨-, -, w, rest, -, hs⟩ := wdgqStep_cases s
  · exact ⟨_, hs⟩
  · have hlt : s.seq.toNat < transactions i := by
      by_cases h0 : s.seq = 0#3
      · simpa [h0] using transactions_pos i
      · exact (h.inFlight hb hd h0).1
    rw [hs]
    exact exec_next_of_lt hlt
  · exact ⟨_, hs⟩
  · exact ⟨_, hs⟩
  · exact ⟨_, hs⟩

/-- Settles O32: of the four turns of a step only WDGQ's own could stop. -/
theorem invariantExcludesEveryStop : Obligations.InvariantExcludesEveryStop := by
  intro s h
  have hq (q : List Event) : Invariant { s with sched := q } := h.outside s.pending s.env s.draws q
  obtain ⟨-, hs⟩ | ⟨rest, -, hs⟩ | ⟨ws, rest, -, hs⟩ | ⟨e, rest, -, -, -, hs⟩ := step_cases s <;> rw [hs]
  · exact h.wdgqStep_next
  · exact (hq rest).wdgqStep_next
  · obtain ⟨t, ht⟩ := (hq rest).wdgqStep_next
    exact ⟨_, by rw [wdgqStepWithin, ht]⟩
  · exact ⟨_, rfl⟩

/-- With nothing scheduled a step of a busy block performs at most one transaction, after which the block is idle or
`SEQ` names the next one. -/
theorem Invariant.busy_step {s : State} (h : Invariant s) (hs : s.sched = []) (hb : s.busy = true) :
    ∃ t, step s = .next t ∧ t.sched = [] ∧ t.trace.length ≤ s.trace.length + 1 ∧
      (t.busy = true → t.seq.toNat = s.seq.toNat + 1) := by
  have hh : s.halt = false := by
    by_contra hh
    simp [h.halt_idle (by simpa using hh)] at hb
  have hstep : step s = wdgqStep s := by simp [step, nextMove, hs]
  obtain ⟨hh', -⟩ | ⟨-, -, i, hd, hi⟩ | ⟨-, -, -, hi⟩ | ⟨-, hb', -⟩ | ⟨-, hb', -⟩ := wdgqStep_cases s
  · simp [hh] at hh'
  · obtain ⟨t, ht⟩ := h.wdgqStep_next
    rw [hi] at ht
    refine ⟨t, hstep.trans (hi.trans ht), ?_⟩
    obtain ⟨x, hx, hxt⟩ := exec_inv ht
    obtain ⟨-, -, -, hsched, -⟩ := exec_keeps ht
    refine ⟨hsched.trans hs, ?_⟩
    cases hxt with
    | seqerr => simp
    | wzero => simp [performed_trace hx]
    | moves =>
      refine ⟨by simp [performed_trace hx], fun hbusy => ?_⟩
      obtain hlt | hlast := lt_or_ge (s.seq.toNat + 1) (transactions i)
      · have hsix := transactions_le_six i
        rw [moveOn_performed_of_lt x hlt, State.advance_seq, State.performed_seq]
        bv_omega
      · rw [moveOn_performed_of_last x hlast] at hbusy
        cases hbusy
  · exact ⟨_, hstep.trans hi, hs, by simp, nofun⟩
  · simp [hb] at hb'
  · simp [hb] at hb'

/-- A busy block is idle after as many steps as `SEQ` is short of six, with at most one transaction each. -/
theorem Invariant.idle_within {n : Nat} {s : State} (h : Invariant s) (hs : s.sched = []) (hb : s.busy = true)
    (hn : 6 ≤ s.seq.toNat + n) :
    ∃ k t, k ≤ n ∧ steps k s = .next t ∧ t.busy = false ∧ t.trace.length ≤ s.trace.length + n := by
  induction n generalizing s with
  | zero =>
    have h0 : s.seq ≠ 0#3 := fun h0 => by simp [h0] at hn
    obtain ⟨i, -, hlt, -⟩ := h.progress hb h0
    have hsix := transactions_le_six i
    omega
  | succ n ih =>
    obtain ⟨u, hu, hsu, htu, hbu⟩ := h.busy_step hs hb
    cases hbusy : u.busy with
    | false => exact ⟨1, u, by omega, steps_succ hu, hbusy, by omega⟩
    | true =>
      have hseq := hbu hbusy
      obtain ⟨k, t, hk, ht, hbt, htt⟩ := ih (everyStepKeepsTheInvariant s u h hu) hsu hbusy (by omega)
      exact ⟨k + 1, t, by omega, (steps_succ hu).trans ht, hbt, by omega⟩

/-- Settles O34: no command lists more than six transactions. -/
theorem commandEndsWithinSixSteps : Obligations.CommandEndsWithinSixSteps := by
  intro s h hs hb
  exact h.idle_within hs hb (by omega)

end Sys2Proof.Machine
end

section
/-! Nothing reads the states of the two controllers (41_iwdg.md R70, 42_wwdg.md R78): two states that differ only in
them are kept so by every part of a transaction, every event and every step. -/

namespace Sys2Proof.Machine

/-- The two states differ in their controller states alone. -/
def SameButControllers (s s' : State) : Prop := ∃ a b, s' = { s with iwdgSt := a, wwdgSt := b }

namespace SameButControllers

variable {s s' t t' : State}

/-- An operation that neither changes the controller states nor looks at them. -/
theorem map (f : State → State)
    (hf : ∀ (s : State) (a b : Controller),
      f { s with iwdgSt := a, wwdgSt := b } = { f s with iwdgSt := a, wwdgSt := b })
    (h : SameButControllers s s') : SameButControllers (f s) (f s') := by
  obtain ⟨a, b, rfl⟩ := h
  exact ⟨a, b, hf s a b⟩

theorem perform (x : Transaction) : SameButControllers s s' → SameButControllers (s.perform x) (s'.perform x) :=
  map (·.perform x) fun _ _ _ => by cases x <;> rfl

theorem setRes (v : Option Result) : SameButControllers s s' → SameButControllers (s.setRes v) (s'.setRes v) :=
  map (·.setRes v) fun _ _ _ => by cases v <;> rfl

theorem raise (code : FaultCode) : SameButControllers s s' → SameButControllers (s.raise code) (s'.raise code) :=
  map (·.raise code) fun _ _ _ => rfl

theorem moveOn (i : Instr) : SameButControllers s s' → SameButControllers (s.moveOn i) (s'.moveOn i) :=
  map (·.moveOn i) fun _ _ _ => by unfold State.moveOn; dsimp only; split <;> rfl

theorem internal (h : SameButControllers s s') (i : Instr) : SameButControllers (s.internal i) (s'.internal i) := by
  obtain ⟨a, b, rfl⟩ := h
  have same : SameButControllers s { s with iwdgSt := a, wwdgSt := b } := ⟨a, b, rfl⟩
  unfold State.internal
  cases i with
  | decI => exact same.setRes _
  | decW => exact same.setRes _
  | iwStart d =>
    dsimp only
    split_ifs
    · exact ⟨a, b, rfl⟩
    · exact ⟨.running, b, rfl⟩
    · exact same
  | iwIval =>
    dsimp only
    split_ifs
    · exact ⟨a, b, rfl⟩
    · exact same.setRes _
    · exact same
  | wwSetwin d =>
    dsimp only
    split_ifs
    · exact ⟨a, b, rfl⟩
    · exact same
  | wwStart d =>
    dsimp only
    split_ifs
    · exact ⟨a, b, rfl⟩
    · exact ⟨a, b, rfl⟩
    · exact ⟨a, .running, rfl⟩
    · exact same
  | wwIval =>
    dsimp only
    split_ifs
    · exact setRes _ ⟨a, b, rfl⟩
    · exact same
  | _ => exact ⟨a, b, rfl⟩

theorem performed (h : SameButControllers s s') (i : Instr) (x : Transaction) :
    SameButControllers (s.performed i x) (s'.performed i x) := (h.perform x).internal i

/-- Another writer's writes inside the steps from `s` to `t` and from `s'` to `t'`. -/
theorem interfered (ht : SameButControllers t t') (hs : SameButControllers s s') (ws : List FieldWrite) :
    SameButControllers (t.interfered s ws) (t'.interfered s' ws) := by
  obtain ⟨a, b, rfl⟩ := hs
  refine map (·.interfered s ws) (fun t c d => ?_) ht
  have hw : State.wroteSince { t with iwdgSt := c, wwdgSt := d } s = t.wroteSince s := rfl
  unfold State.interfered
  rw [hw]
  cases t.wroteSince s <;> rfl

theorem happen (h : SameButControllers s s') (e : Event) : SameButControllers (s.happen e) (s'.happen e) := by
  obtain ⟨a, b, rfl⟩ := h
  cases e with
  | reset => exact ⟨.unstarted, .unstarted, rfl⟩
  | _ => exact ⟨a, b, rfl⟩

theorem exec {i : Instr} (h : SameButControllers s s') (ht : exec i s = .next t) :
    ∃ t', exec i s' = .next t' ∧ SameButControllers t t' := by
  obtain ⟨x, hx, hxt⟩ := exec_inv ht
  obtain ⟨a, b, hs'⟩ := id h
  have hx' : named i s' = some x := by
    rw [← hx, hs']
    cases i <;> rfl
  cases hxt with
  | seqerr hi hs hw => exact ⟨_, exec_raises_seqerr hi (hs' ▸ hs) (hs' ▸ hw), h.raise .seqerr⟩
  | wzero d hi hs hw hz =>
    subst hi
    exact ⟨_, exec_raises_wzero hx' (hs' ▸ hs) (hs' ▸ hw) (hs' ▸ hz), (h.performed _ x).raise .wzero⟩
  | moves hw hz => exact ⟨_, exec_moves_on hx' (hs' ▸ hw) (hs' ▸ hz), (h.performed i x).moveOn i⟩

theorem wdgqStep (h : SameButControllers s s') (ht : wdgqStep s = .next t) :
    ∃ t', wdgqStep s' = .next t' ∧ SameButControllers t t' := by
  obtain ⟨a, b, hs'⟩ := id h
  obtain ⟨hh, hs⟩ | ⟨hh, hb, i, hd, hs⟩ | ⟨hh, hb, ⟨e, hd⟩, hs⟩ | ⟨hh, hb, hp, hs⟩ | ⟨hh, hb, w, rest, hp, hs⟩ :=
    wdgqStep_cases s <;> rw [hs] at ht
  · cases ht
    exact ⟨s'.ignoreWord, by simp [Machine.wdgqStep, hs', hh], h.map State.ignoreWord fun _ _ _ => rfl⟩
  · obtain ⟨t', ht', htt'⟩ := h.exec ht
    exact ⟨t', by rw [← ht']; simp [Machine.wdgqStep, hs', hh, hb, hd], htt'⟩
  · cases ht
    exact ⟨s'.raise .illcmd, by simp [Machine.wdgqStep, hs', hh, hb, hd], h.raise .illcmd⟩
  · cases ht
    exact ⟨s', by simp [Machine.wdgqStep, hs', hh, hb, hp], h⟩
  · cases ht
    exact ⟨s'.accept w rest, by simp [Machine.wdgqStep, hs', hh, hb, hp], h.map (·.accept w rest) fun _ _ _ => rfl⟩

theorem wdgqStepWithin (h : SameButControllers s s') {ws : List FieldWrite} (ht : wdgqStepWithin ws s = .next t) :
    ∃ t', wdgqStepWithin ws s' = .next t' ∧ SameButControllers t t' := by
  obtain ⟨u, hu, rfl⟩ := wdgqStepWithin_next ht
  obtain ⟨u', hu', huu'⟩ := h.wdgqStep hu
  exact ⟨u'.interfered s' ws, by simp only [Machine.wdgqStepWithin, hu'], huu'.interfered h ws⟩

theorem step (h : SameButControllers s s') (ht : step s = .next t) :
    ∃ t', step s' = .next t' ∧ SameButControllers t t' := by
  have later (q : List Event) : SameButControllers { s with sched := q } { s' with sched := q } :=
    h.map (fun u => { u with sched := q }) fun _ _ _ => rfl
  have hsched : s'.sched = s.sched := by
    obtain ⟨a, b, rfl⟩ := h
    rfl
  obtain ⟨hs, hstep⟩ | ⟨rest, hs, hstep⟩ | ⟨ws, rest, hs, hstep⟩ | ⟨e, rest, he, hw, hs, hstep⟩ := step_cases s <;>
    rw [hstep] at ht
  · simpa [Machine.step, nextMove, hsched, hs] using h.wdgqStep ht
  · simpa [Machine.step, nextMove, hsched, hs] using (later rest).wdgqStep ht
  · simpa [Machine.step, nextMove, hsched, hs] using (later rest).wdgqStepWithin ht
  · cases ht
    refine ⟨_, ?_, (later rest).happen e⟩
    simp only [Machine.step, nextMove, hsched, hs]

end SameButControllers

/-- Settles O37: the second run takes the same step, from and to states that differ in the controllers alone. -/
theorem controllerStatesAreNeverRead : Obligations.ControllerStatesAreNeverRead := by
  intro s t a b ht
  have h : SameButControllers s { s with iwdgSt := a, wwdgSt := b } := ⟨a, b, rfl⟩
  obtain ⟨t', ht', a', b', rfl⟩ := h.step ht
  exact ⟨a', b', ht'⟩

end Sys2Proof.Machine
end

section
/-! The reset values (10_state.md R27), the status port (R20) and the command that a step runs (R13, 30_encoding.md
R46). -/

namespace Sys2Proof.Machine

/-- Settles O1: `State.drawn` writes each stated value, and a free value of its width where none is stated. -/
theorem resetLeavesTheStatedValues : Obligations.ResetLeavesTheStatedValues :=
  ⟨rfl, fun _ _ => ⟨rfl, rfl, rfl, rfl, rfl, rfl, rfl, rfl, ⟨_, rfl⟩, ⟨_, rfl⟩, ⟨_, rfl⟩, ⟨_, rfl⟩, ⟨_, rfl⟩, rfl, rfl⟩⟩

/-! ### The status port -/

/-- A bit appended below the others. -/
theorem toNat_append_bit {w : Nat} (x : BitVec w) (b : BitVec 1) : (x ++ b).toNat = 2 * x.toNat + b.toNat := by
  rw [BitVec.toNat_append, ← Nat.shiftLeft_add_eq_or_of_lt b.isLt, Nat.shiftLeft_eq, pow_one, mul_comm]

/-- Settles O21: each register is the concatenation of its bits, read as a number. -/
theorem statusPortPacking : Obligations.StatusPortPacking := by
  intro s
  refine ⟨?_, ?_, ?_, ?_, ?_, ?_, ?_, rfl⟩
  · show (s.stat.setWidth 64).toNat = _
    rw [BitVec.toNat_setWidth_of_le (by decide), State.stat]
    simp only [toNat_append_bit, BitVec.toNat_ofBool]
    omega
  · exact BitVec.toNat_setWidth_of_le (by decide)
  · exact BitVec.toNat_setWidth_of_le (by decide)
  · exact BitVec.toNat_setWidth_of_le (by decide)
  · show (s.cap.setWidth 64).toNat = _
    rw [BitVec.toNat_setWidth_of_le (by decide), State.cap]
    simp only [toNat_append_bit, BitVec.toNat_ofBool]
    omega
  · exact BitVec.toNat_setWidth_of_le (by decide)
  · exact BitVec.toNat_setWidth_of_le (by decide)

/-! ### The command in progress -/

/-- A command that exists on a variant decodes from its own word. -/
theorem decode_encode {c : Caps} {i : Instr} (h : WellFormed c i = true) : decode c (encode i) = .ok i := by
  cases i with
  | iwDbg stop => cases stop <;> simp [decode, encode, formB, ifCap, flagArg, show c.dbg = true from h]
  | wwEwi enabled => cases enabled <;> simp [decode, encode, formB, ifCap, flagArg, show c.irq = true from h]
  | _ => simp [decode, encode, formN]

/-- A busy block that is not halted runs the command its word decodes to. -/
theorem wdgqStep_of_decode {s : State} {i : Instr} (hh : s.halt = false) (hb : s.busy = true)
    (hd : decode s.cfg.caps s.cmdr = .ok i) : wdgqStep s = exec i s := by
  simp [wdgqStep, hh, hb, hd]

/-- Settles O3: whatever form WDGQ's turn takes, its step runs the command of `CMDR`. -/
theorem stepRunsTheDecodedCommand : Obligations.StepRunsTheDecodedCommand := by
  refine ⟨fun s i hh hb hd => ⟨fun hs => ?_, fun rest hs => ?_, fun ws rest t hs ht => ⟨?_, ?_⟩⟩, fun s i hi => ?_⟩
  · simpa only [step, nextMove, hs] using wdgqStep_of_decode hh hb hd
  · simpa only [step, nextMove, hs] using wdgqStep_of_decode (s := { s with sched := rest }) hh hb hd
  · have hstep := wdgqStep_of_decode (s := { s with sched := rest }) hh hb hd
    simp only [step, nextMove, hs, wdgqStepWithin, hstep, ht]
  · exact ⟨_, _, State.interfered_frame ..⟩
  · have hword : (s.withFetchWord 40 (encode i).toNat).cmdr = encode i := by
      simp [State.withFetchWord, State.loaded, Nat.mod_eq_of_lt (encode i).isLt]
    refine wdgqStep_of_decode (s := s.withFetchWord 40 (encode i).toNat) rfl rfl ?_
    rw [hword]
    exact decode_encode hi

end Sys2Proof.Machine
end

section
/-! The trace and the queries (20_memory.md R34, R35, R43). What a transaction adds to the trace and latches is said
once, for every transaction of every command (`Transacts.emits`); which of them are queries is read off the lists. -/

namespace Sys2Proof.Machine

@[simp] theorem State.moveOn_fq (s : State) (i : Instr) : (s.moveOn i).fq = s.fq := by rw [State.moveOn_frame]

/-- The internal writes leave the latched frequency to the transaction. -/
@[simp] theorem State.internal_fq (s : State) (i : Instr) : (s.internal i).fq = s.fq := by rw [State.internal_frame]

/-- A transaction that no state check precedes joins the trace, and latches what it performs. -/
theorem Transacts.emits {i : Instr} {s t : State} {x : Transaction} (h : Transacts i s x t) (hx : named i s = some x) :
    (needsWck i = true ∧ s.seq = 0#3 ∧ s.wck = false ∧ t = s.raise .seqerr) ∨
    (t.trace = s.trace ++ [x] ∧ t.fq = (s.perform x).fq) := by
  cases h with
  | seqerr hi hs hw => exact .inl ⟨hi, hs, hw, rfl⟩
  | wzero => exact .inr ⟨performed_trace hx, State.internal_fq ..⟩
  | moves => exact .inr ⟨by rw [State.moveOn_trace, performed_trace hx], by simp [State.performed]⟩

/-- Settles O17: of a step's four forms only a transaction of the command in progress adds to the trace. -/
theorem traceGrowsByOneTransactionInOrder : Obligations.TraceGrowsByOneTransactionInOrder := by
  intro s t h hr
  obtain ⟨i, q, u, e, n, hrun, -, -, -, -, hu, rfl⟩ | ⟨-, -, -, -, e, n, q, rfl⟩ | ⟨-, -, w, rest, e, n, q, rfl⟩ |
    ⟨ws, e, n, q, rfl⟩ := step_forms h hr
  · obtain ⟨-, -, hearlier, -, -⟩ := exec_keeps hu
    obtain ⟨x, hx, hxu⟩ := exec_inv hu
    refine ⟨hearlier, ?_⟩
    obtain ⟨-, -, -, rfl⟩ | ⟨htrace, -⟩ := hxu.emits hx
    · exact .inl rfl
    · exact .inr ⟨i, x, hrun, seq_lt_of_named hx, named_sched i s q ▸ hx, htrace⟩
  · exact ⟨rfl, .inl rfl⟩
  · exact ⟨rfl, .inl rfl⟩
  · exact ⟨rfl, .inl rfl⟩

/-! ### Which transactions are queries -/

/-- A timing command's first transaction is the query of its clock. -/
theorem named_of_queriedDomain {i : Instr} {s : State} {dom : Domain} (hi : queriedDomain i = some dom)
    (hs : s.seq = 0#3) : named i s = some (.clkQuery dom (s.env.freq dom)) := by
  cases i <;> cases hi <;> simp [named, listed, hs, Env.freq]

theorem ne_clkQuery_of_queriedDomain_none {i : Instr} (hi : queriedDomain i = none) (s : State) :
    ∀ x ∈ listed i s, ∀ dom f, x ≠ .clkQuery dom f := by
  cases i <;> cases hi <;> simp [listed]

theorem ne_clkQuery_of_later (i : Instr) (s : State) : ∀ x ∈ (listed i s).tail, ∀ dom f, x ≠ .clkQuery dom f := by
  cases i <;> simp [listed]

theorem named_mem_tail {i : Instr} {s : State} {x : Transaction} (hx : named i s = some x) (hs : s.seq ≠ 0#3) :
    x ∈ (listed i s).tail := by
  obtain ⟨k, hk⟩ := Nat.exists_eq_succ_of_ne_zero (mt (seq_eq_zero_iff s).2 hs)
  exact List.mem_of_getElem? (i := k) (by rwa [named, hk, ← List.getElem?_tail] at hx)

/-- Only a query latches a frequency. -/
theorem State.perform_fq_of_ne_clkQuery (s : State) {x : Transaction} (hx : ∀ dom f, x ≠ .clkQuery dom f) :
    (s.perform x).fq = s.fq := by
  cases x with
  | clkQuery dom f => exact absurd rfl (hx dom f)
  | memRead => rfl
  | memWrite => rfl

/-- Settles O18: the first transaction of a timing command is its one query, and no other listed transaction is one. -/
theorem frequencyIsQueriedFreshAndFirst : Obligations.FrequencyIsQueriedFreshAndFirst := by
  refine ⟨fun i s dom hi hs hw => ?_, fun i s t ht hi => ?_⟩
  · have hx := named_of_queriedDomain hi hs
    obtain ⟨t, ht, hxt⟩ := exec_of_named hx
    obtain ⟨hneeds, -, hwck, -⟩ | ⟨htrace, hfq⟩ := hxt.emits hx
    · exact absurd (hw hneeds) (by simp [hwck])
    · exact ⟨t, ht, htrace, hfq⟩
  · obtain ⟨x, hx, hxt⟩ := exec_inv ht
    have hne : ∀ dom f, x ≠ .clkQuery dom f := by
      obtain hnone | hs := hi
      · exact ne_clkQuery_of_queriedDomain_none hnone s x (List.mem_of_getElem? hx)
      · exact ne_clkQuery_of_later i s x (named_mem_tail hx hs)
    obtain ⟨-, -, -, rfl⟩ | ⟨htrace, hfq⟩ := hxt.emits hx
    · exact ⟨rfl, by simp⟩
    · exact ⟨hfq.trans (s.perform_fq_of_ne_clkQuery hne), by simpa [htrace] using hne⟩

end Sys2Proof.Machine
end

section
/-! The two enables that only a reset undoes (20_memory.md R41, 41_iwdg.md R76), and what a register write leaves in the
fields beside it (20_memory.md R31, R37). `EnablesKept` is kept by every change of the environment but a reset. -/

namespace Sys2Proof.Machine

/-! ### The enables -/

/-- From the environment `a` to `b` neither a set `wdga` nor a started countdown has been undone. -/
structure EnablesKept (a b : Env) : Prop where
  wdga : a.fields.wdga = 1#1 → b.fields.wdga = 1#1
  counting : a.counting = true → b.counting = true

/-- `wdga` after a write takes a set bit with it (10_state.md R23). -/
theorem Env.stored_wdga {e : Env} (h : e.fields.wdga = 1#1) (v : BitVec 1) (n : Nat) : e.stored .wdga v n = 1#1 := by
  show e.fields.wdga ||| e.gated v n = 1#1
  rw [h]
  exact BitVec.allOnes_or

theorem Env.drifted_wdga {e : Env} (h : e.fields.wdga = 1#1) (v : BitVec 1) : e.drifted .wdga v = 1#1 := by
  show e.fields.wdga ||| v = 1#1
  rw [h]
  exact BitVec.allOnes_or

theorem Env.write_wdga {e : Env} (h : e.fields.wdga = 1#1) (fa : Field) (v : BitVec fa.width) (n : Nat) :
    (e.write fa v n).fields.wdga = 1#1 := by
  by_cases hfa : Field.wdga = fa
  · subst hfa
    exact (e.write_get_same ..).trans (Env.stored_wdga h v n)
  · exact (e.write_get_other v n hfa).trans h

theorem Env.drift_wdga {e : Env} (h : e.fields.wdga = 1#1) (fa : Field) (v : BitVec fa.width) :
    (e.drift fa v).fields.wdga = 1#1 := by
  by_cases hfa : Field.wdga = fa
  · subst hfa
    exact (e.drift_get_same ..).trans (Env.drifted_wdga h v)
  · exact (e.drift_get_other v hfa).trans h

/-- A write back cannot clear it either, whatever was read. -/
theorem Env.writeBack_wdga {e : Env} (h : e.fields.wdga = 1#1) (old : Fields) (fa : Field) (v : BitVec fa.width)
    (n : Nat) : (e.writeBack old fa v n).fields.wdga = 1#1 := by
  by_cases hfa : Field.wdga = fa
  · subst hfa
    exact (e.writeBack_get_same ..).trans (Env.stored_wdga h v n)
  · refine (e.writeBack_get_other old v n hfa).trans ?_
    unfold Env.restored
    split
    · exact Env.stored_wdga h _ _
    · exact h

/-- No key stops a countdown (41_iwdg.md R76). -/
theorem Env.write_counting {e : Env} (h : e.counting = true) (fa : Field) (v : BitVec fa.width) (n : Nat) :
    (e.write fa v n).counting = true := by
  by_cases hfa : fa = .key
  · subst hfa
    show e.countAfterKey v n = true
    unfold Env.countAfterKey
    split_ifs
    · rfl
    · exact h
    · rw [h, Bool.true_or]
  · exact (e.write_counting_of_ne_key v n hfa).trans h

namespace EnablesKept

theorem refl (e : Env) : EnablesKept e e := ⟨id, id⟩

theorem trans {a b c : Env} (hab : EnablesKept a b) (hbc : EnablesKept b c) : EnablesKept a c :=
  ⟨hbc.wdga ∘ hab.wdga, hbc.counting ∘ hab.counting⟩

theorem write (e : Env) (fa : Field) (v : BitVec fa.width) (n : Nat) : EnablesKept e (e.write fa v n) :=
  ⟨fun h => e.write_wdga h fa v n, fun h => e.write_counting h fa v n⟩

theorem writes (e : Env) (ws : List FieldWrite) (n : Nat) : EnablesKept e (e.writes ws n) := by
  induction ws generalizing e n with
  | nil => exact refl e
  | cons x xs ih => exact (write e x.field x.value n).trans (ih _ _)

theorem writeBack (e : Env) (old : Fields) (fa : Field) (v : BitVec fa.width) (n : Nat) :
    EnablesKept e (e.writeBack old fa v n) :=
  ⟨fun h => e.writeBack_wdga h old fa v n, fun h => e.write_counting h fa v n⟩

theorem drift (e : Env) (fa : Field) (v : BitVec fa.width) : EnablesKept e (e.drift fa v) :=
  ⟨fun h => e.drift_wdga h fa v, id⟩

theorem setFreq (e : Env) (dom : Domain) (f : Freq) : EnablesKept e (e.setFreq dom f) := by
  cases dom <;> exact ⟨id, id⟩

/-- A transaction of the command in progress writes at most one field. -/
theorem exec {i : Instr} {s t : State} (h : exec i s = .next t) : EnablesKept s.env t.env := by
  obtain henv | ⟨fa, v, henv⟩ := exec_env h <;> rw [henv]
  · exact refl _
  · exact write ..

theorem wdgqStep {s t : State} (h : wdgqStep s = .next t) : EnablesKept s.env t.env := by
  obtain ⟨-, -, i, -, hi⟩ | ⟨-, -, -, rfl⟩ | ⟨-, -, w, rest, rfl⟩ | ⟨p, rfl⟩ := wdgqStep_leaves h
  · exact exec hi
  · exact refl _
  · exact refl _
  · exact refl _

/-- Another writer's writes inside the step from `s` to `t`: both writers keep the enables. -/
theorem interfered {s t : State} (h : EnablesKept s.env t.env) (ws : List FieldWrite) :
    EnablesKept s.env (t.interfered s ws).env := by
  obtain ⟨x, -, henv⟩ | ⟨-, henv⟩ := t.interfered_env s ws <;> rw [henv]
  · exact (writes ..).trans (writeBack ..)
  · exact h.trans (writes ..)

theorem happen (s : State) {e : Event} (he : e ≠ .reset) : EnablesKept s.env (s.happen e).env := by
  cases e with
  | reset => exact absurd rfl he
  | clock dom f => exact setFreq ..
  | drift fa v => exact drift ..
  | intrude fa v => exact write ..
  | wdgq => exact refl _
  | present w => exact refl _
  | within ws => exact refl _

theorem step {s t : State} (h : step s = .next t) (hr : resetTurn s = false) : EnablesKept s.env t.env := by
  obtain ⟨-, hstep⟩ | ⟨rest, -, hstep⟩ | ⟨ws, rest, -, hstep⟩ | ⟨e, rest, -, -, hs, hstep⟩ := step_cases s <;>
    rw [hstep] at h
  · exact wdgqStep h
  · exact wdgqStep (s := { s with sched := rest }) h
  · obtain ⟨u, hu, rfl⟩ := wdgqStepWithin_next h
    exact (wdgqStep hu).interfered ws
  · cases h
    refine happen { s with sched := rest } fun he => ?_
    simp [resetTurn, hs, he] at hr

end EnablesKept

/-- Settles O60: WDGQ's step, another writer's writes inside it and every event but a reset keep both enables. -/
theorem enablesAreNeverUndone : Obligations.EnablesAreNeverUndone := by
  intro s t h hr
  have hkept := EnablesKept.step h hr
  exact ⟨hkept.wdga, hkept.counting⟩

/-! ### The fields beside a written one -/

theorem Env.restored_of_other_register (e : Env) (old : Fields) {fa fb : Field} (h : fb.register ≠ fa.register)
    (n : Nat) : e.restored old fa fb n = e.fields.get fb := if_neg fun hc => h hc.1

/-- The fields that share a register with another one (20_memory.md R28). -/
theorem Field.shared_register {fa fb : Field} (hreg : fb.register = fa.register) (hne : fb ≠ fa) :
    fb = .t ∨ fb = .wdga ∨ fb = .w ∨ fb = .wdgtb ∨ fb = .ewi := by
  cases fb <;> cases fa <;> simp [Field.register] at hreg hne ⊢

/-- With the gate open these fields take a written value, but for the two that a write may not clear (log entries 12,
13). -/
theorem Env.stored_of_open {e : Env} (hgate : e.fields.clkgate = 1#1) {fa fb : Field}
    (hreg : fb.register = fa.register) (hne : fb ≠ fa) (hwdga : fb ≠ .wdga) (hewi : fb ≠ .ewi) (v : BitVec fb.width)
    (n : Nat) : e.stored fb v n = v := by
  obtain rfl | rfl | rfl | rfl | rfl := Field.shared_register hreg hne
  · exact if_pos hgate
  · exact absurd rfl hwdga
  · exact if_pos hgate
  · exact if_pos hgate
  · exact absurd rfl hewi

/-- Such a field is restored to what was read, whether or not another writer has changed it since (log entry 25). -/
theorem Env.restored_of_open {e : Env} (hgate : e.fields.clkgate = 1#1) (old : Fields) {fa fb : Field}
    (hreg : fb.register = fa.register) (hne : fb ≠ fa) (hwdga : fb ≠ .wdga) (hewi : fb ≠ .ewi) (n : Nat) :
    e.restored old fa fb n = old.get fb := by
  unfold Env.restored
  split
  · exact Env.stored_of_open hgate hreg hne hwdga hewi _ _
  · next hsame => exact not_not.1 fun hc => hsame ⟨hreg, hc⟩

/-- A step of WDGQ that writes a register, with another writer's writes inside it. -/
theorem step_within_memWrite {s u : State} {fa : Field} {v : BitVec fa.width} {ws : List FieldWrite} {rest : List Event}
    (hs : s.sched = .within ws :: rest) (hu : wdgqStep { s with sched := rest } = .next u)
    (htrace : u.trace = s.trace ++ [.memWrite fa v]) :
    ∃ t, step s = .next t ∧ t.trace = u.trace ∧
      t.env = (s.env.writes ws u.draws).writeBack s.env.fields fa v (u.draws + ws.length * writeDraws) := by
  have hwrote : u.wroteSince { s with sched := rest } = some ⟨fa, v⟩ := State.wroteSince_of_append htrace
  refine ⟨u.interfered { s with sched := rest } ws, ?_, ?_, ?_⟩
  · simp only [step, nextMove, hs, wdgqStepWithin, hu]
  · rw [State.interfered_frame]
  · simp only [State.interfered, hwrote]

/-- Settles O19: alone a write is `Fields.set`; with writes inside it the write back restores field by field. -/
theorem fieldWriteLeavesOtherFields : Obligations.FieldWriteLeavesOtherFields := by
  refine fun s fa v => ⟨rfl, fun fb hne => Env.write_get_other _ _ _ hne, fun ws rest u hs hu htrace => ?_⟩
  obtain ⟨t, ht, httrace, henv⟩ := step_within_memWrite hs hu htrace
  refine ⟨t, ht, httrace, ?_, fun fb hreg => ?_, fun hgate fb hreg hne hwdga hewi => ?_, fun hset => ?_⟩ <;> rw [henv]
  · exact Env.writeBack_get_same ..
  · have hne : fb ≠ fa := fun h => hreg (congrArg Field.register h)
    rw [Env.writeBack_get_other _ _ _ _ hne, Env.restored_of_other_register _ _ hreg]
  · rw [Env.writeBack_get_other _ _ _ _ hne, Env.restored_of_open hgate _ hreg hne hwdga hewi]
  · exact Env.writeBack_wdga hset ..

end Sys2Proof.Machine
end

section
/-! The command word (30_encoding.md R44 to R50). A word is the pair of its two fields, and the decoder answers it by
one of the three operand forms; so it answers the words of the commands that exist and no others, and each row of the
opcode table is the words of the commands of one mnemonic. -/

namespace Sys2Proof.Machine

open Sys2Proof.Laws

/-! ### The two fields of a word, and the operand forms -/

theorem wordOf_opOf_argOf (w : Command) : wordOf (opOf w) (argOf w) = w := by
  rw [wordOf, opOf, argOf, BitVec.extractLsb'_append_extractLsb'_eq_extractLsb' (by decide)]
  exact BitVec.extractLsb'_eq_self

theorem wordOf_eq_of_fields {w : Command} {op : BitVec 8} {arg : BitVec 32} (hop : opOf w = op) (harg : argOf w = arg) :
    wordOf op arg = w := by
  rw [← hop, ← harg, wordOf_opOf_argOf]

/-- The reserved bits of form B are clear (R48) in the operands of at most 1. -/
theorem reserved_eq_zero_iff (arg : BitVec 32) : arg.extractLsb' 1 31 = 0#31 ↔ arg.toNat / 2 = 0 := by
  rw [← BitVec.toNat_inj, BitVec.extractLsb'_toNat, Nat.shiftRight_eq_div_pow]
  simp only [BitVec.toNat_ofNat]
  omega

/-- An operand with clear reserved bits is its flag. -/
theorem flagArg_of_reserved {arg : BitVec 32} (h : arg.extractLsb' 1 31 = 0#31) : flagArg (arg.getLsbD 0) = arg := by
  have hsmall := (reserved_eq_zero_iff arg).1 h
  obtain rfl | rfl : arg = 0#32 ∨ arg = 1#32 := by bv_omega
  · rfl
  · rfl

theorem exists_formN_error_iff (arg : BitVec 32) (i : Instr) : (∃ e, formN arg i = .error e) ↔ arg.toNat ≠ 0 := by
  have hzero : arg = 0#32 ↔ arg.toNat = 0 := BitVec.toNat_eq
  by_cases h : arg.toNat = 0 <;> simp [formN, hzero, h]

theorem exists_formB_error_iff (arg : BitVec 32) (f : Bool → Instr) :
    (∃ e, formB arg f = .error e) ↔ arg.toNat / 2 ≠ 0 := by
  rw [ne_eq, ← reserved_eq_zero_iff]
  by_cases h : arg.extractLsb' 1 31 = 0#31 <;> simp [formB, h]

theorem exists_ifCap_error_iff (present : Bool) (r : Except DecodeError Instr) :
    (∃ e, ifCap present r = .error e) ↔ present = false ∨ ∃ e, r = .error e := by
  cases present <;> simp [ifCap]

theorem formN_eq_ok {arg : BitVec 32} {i j : Instr} (h : formN arg i = .ok j) : arg = 0#32 ∧ i = j := by
  unfold formN at h
  split at h <;> cases h
  exact ⟨‹_›, rfl⟩

theorem formB_eq_ok {arg : BitVec 32} {f : Bool → Instr} {j : Instr} (h : formB arg f = .ok j) :
    ∃ b, arg = flagArg b ∧ f b = j := by
  unfold formB at h
  split at h <;> cases h
  exact ⟨_, (flagArg_of_reserved ‹_›).symm, rfl⟩

theorem ifCap_eq_ok {present : Bool} {r : Except DecodeError Instr} {j : Instr} (h : ifCap present r = .ok j) :
    present = true ∧ r = .ok j := by
  unfold ifCap at h
  split at h <;> cases h
  exact ⟨‹_›, rfl⟩

/-! ### The opcode map, by operand form -/

/-- The operation codes of the form D commands (R47). -/
def durationOps : List (BitVec 8) := [0x01#8, 0x02#8, 0x10#8, 0x21#8, 0x22#8]

/-- The operation codes of the form N commands (R47). -/
def bareOps : List (BitVec 8) := [0x03#8, 0x04#8, 0x11#8, 0x12#8, 0x20#8, 0x23#8, 0x24#8]

/-- The operation codes of the form B commands (R47). -/
def flagOps : List (BitVec 8) := [0x13#8, 0x25#8]

/-- The capability of a form B operation code (R50). -/
def capOf (c : Caps) (op : BitVec 8) : Bool := if op = 0x13#8 then c.dbg else c.irq

/-- What the decoder answers to a word, by the operand form of its operation code `op`: the words of the commands that
it may answer are those with this `op`. -/
inductive DecodesBy (c : Caps) (w : Command) : Except DecodeError Instr → Prop
  | duration (op : BitVec 8) (f : Duration → Instr) (hop : opOf w = op) (hmem : op ∈ durationOps)
      (hword : ∀ d, encode (f d) = wordOf op d) (hwf : ∀ d, WellFormed c (f d) = true) :
      DecodesBy c w (.ok (f (argOf w)))
  | bare (op : BitVec 8) (i : Instr) (hop : opOf w = op) (hmem : op ∈ bareOps) (hword : encode i = wordOf op 0#32)
      (hwf : WellFormed c i = true) : DecodesBy c w (formN (argOf w) i)
  | flag (op : BitVec 8) (f : Bool → Instr) (hop : opOf w = op) (hmem : op ∈ flagOps)
      (hword : ∀ b, encode (f b) = wordOf op (flagArg b)) (hwf : ∀ b, WellFormed c (f b) = capOf c op) :
      DecodesBy c w (ifCap (capOf c op) (formB (argOf w) f))
  | unassigned (hop : opOf w ∉ durationOps ++ bareOps ++ flagOps) : DecodesBy c w (.error .unassignedOp)

theorem decode_decodesBy (c : Caps) (w : Command) : DecodesBy c w (decode c w) := by
  unfold decode
  dsimp only
  refine iteInduction (fun h => .duration _ .qntI h (by decide) (fun _ => rfl) fun _ => rfl) fun _ => ?_
  refine iteInduction (fun h => .duration _ .qntW h (by decide) (fun _ => rfl) fun _ => rfl) fun _ => ?_
  refine iteInduction (fun h => .bare _ .decI h (by decide) rfl rfl) fun _ => ?_
  refine iteInduction (fun h => .bare _ .decW h (by decide) rfl rfl) fun _ => ?_
  refine iteInduction (fun h => .duration _ .iwStart h (by decide) (fun _ => rfl) fun _ => rfl) fun _ => ?_
  refine iteInduction (fun h => .bare _ .iwFeed h (by decide) rfl rfl) fun _ => ?_
  refine iteInduction (fun h => .bare _ .iwIval h (by decide) rfl rfl) fun _ => ?_
  refine iteInduction (fun h => .flag _ .iwDbg h (by decide) (fun _ => rfl) fun _ => rfl) fun _ => ?_
  refine iteInduction (fun h => .bare _ .wwNew h (by decide) rfl rfl) fun _ => ?_
  refine iteInduction (fun h => .duration _ .wwSetwin h (by decide) (fun _ => rfl) fun _ => rfl) fun _ => ?_
  refine iteInduction (fun h => .duration _ .wwStart h (by decide) (fun _ => rfl) fun _ => rfl) fun _ => ?_
  refine iteInduction (fun h => .bare _ .wwFeed h (by decide) rfl rfl) fun _ => ?_
  refine iteInduction (fun h => .bare _ .wwIval h (by decide) rfl rfl) fun _ => ?_
  refine iteInduction (fun h => .flag _ .wwEwi h (by decide) (fun _ => rfl) fun _ => rfl) fun _ => ?_
  exact .unassigned (by simp [durationOps, bareOps, flagOps, *])

/-! ### Decode and encode -/

/-- A word decodes to no command but the one that it is the word of. -/
theorem encode_of_decode {c : Caps} {w : Command} {i : Instr} (h : decode c w = .ok i) :
    encode i = w ∧ WellFormed c i = true := by
  have hform : DecodesBy c w (.ok i) := h ▸ decode_decodesBy c w
  generalize hr : Except.ok i = r at hform
  cases hform with
  | duration op f hop _ hword hwf =>
    obtain rfl := Except.ok.inj hr
    exact ⟨(hword _).trans (wordOf_eq_of_fields hop rfl), hwf _⟩
  | bare op j hop _ hword hwf =>
    obtain ⟨harg, rfl⟩ := formN_eq_ok hr.symm
    exact ⟨hword.trans (wordOf_eq_of_fields hop harg), hwf⟩
  | flag op f hop _ hword hwf =>
    obtain ⟨hcap, hr⟩ := ifCap_eq_ok hr.symm
    obtain ⟨b, harg, rfl⟩ := formB_eq_ok hr
    exact ⟨(hword b).trans (wordOf_eq_of_fields hop harg), (hwf b).trans hcap⟩
  | unassigned => cases hr

/-- Settles O22: by the operand form of the word's operation code. -/
theorem decodeAndEncodeAgree : Obligations.DecodeAndEncodeAgree :=
  ⟨fun _ _ hi => decode_encode hi, fun _ _ _ h => encode_of_decode h⟩

/-! ### The illegal words -/

/-- The words that R49 lists, by their two fields. -/
def ListedIllegal (c : Caps) (op arg : Nat) : Prop :=
  op = 0x00 ∨ (0x05 ≤ op ∧ op ≤ 0x0F) ∨ (0x14 ≤ op ∧ op ≤ 0x1F) ∨ 0x26 ≤ op ∨
  (op ∈ [0x03, 0x04, 0x11, 0x12, 0x20, 0x23, 0x24] ∧ arg ≠ 0) ∨
  (op ∈ [0x13, 0x25] ∧ arg / 2 ≠ 0) ∨
  (op = 0x13 ∧ c.dbg = false) ∨ (op = 0x25 ∧ c.irq = false)

theorem exists_decode_error_iff (c : Caps) (w : Command) :
    (∃ e, decode c w = .error e) ↔ ListedIllegal c (opOf w).toNat (argOf w).toNat := by
  have hform := decode_decodesBy c w
  generalize decode c w = r at hform ⊢
  cases hform with
  | duration op f hop hmem _ _ =>
    simp only [durationOps, List.mem_cons, List.not_mem_nil, or_false] at hmem
    obtain rfl | rfl | rfl | rfl | rfl := hmem <;> simp [ListedIllegal, hop]
  | bare op i hop hmem _ _ =>
    rw [exists_formN_error_iff]
    simp only [bareOps, List.mem_cons, List.not_mem_nil, or_false] at hmem
    obtain rfl | rfl | rfl | rfl | rfl | rfl | rfl := hmem <;> simp [ListedIllegal, hop]
  | flag op f hop hmem _ _ =>
    rw [exists_ifCap_error_iff, exists_formB_error_iff, or_comm]
    simp only [flagOps, List.mem_cons, List.not_mem_nil, or_false] at hmem
    obtain rfl | rfl := hmem <;> simp [ListedIllegal, capOf, hop]
  | unassigned hop =>
    refine iff_of_true ⟨_, rfl⟩ ?_
    simp only [durationOps, bareOps, flagOps, List.cons_append, List.nil_append, List.mem_cons, List.not_mem_nil,
      or_false, ← BitVec.toNat_inj, BitVec.toNat_ofNat] at hop
    simp only [ListedIllegal]
    omega

/-! ### The opcode table -/

theorem tableRow (i : Instr) : TableRow.Statement i := by
  cases i with
  | qntI d => exact TableRow.qntI d
  | qntW d => exact TableRow.qntW d
  | decI => exact TableRow.decI
  | decW => exact TableRow.decW
  | iwStart d => exact TableRow.iwStart d
  | iwFeed => exact TableRow.iwFeed
  | iwIval => exact TableRow.iwIval
  | iwDbg stop => exact TableRow.iwDbg stop
  | wwNew => exact TableRow.wwNew
  | wwSetwin d => exact TableRow.wwSetwin d
  | wwStart d => exact TableRow.wwStart d
  | wwFeed => exact TableRow.wwFeed
  | wwIval => exact TableRow.wwIval
  | wwEwi enabled => exact TableRow.wwEwi enabled

/-- A word of a form D row has the row's operation code and any operand. -/
theorem wordOf_of_opMask {w : Command} {op : BitVec 8} (h : (w &&& 0xFF00000000#40 == wordOf op 0#32) = true) :
    wordOf op (argOf w) = w := by
  rw [beq_iff_eq, ← wordOf_opOf_argOf w, wordOf_and_opMask] at h
  have hop : opOf w = op := by simpa using congrArg opOf h
  exact wordOf_eq_of_fields hop rfl

/-- A form N row has one word. -/
theorem wordOf_of_fullMask {w : Command} {op : BitVec 8} (h : (w &&& 0xFFFFFFFFFF#40 == wordOf op 0#32) = true) :
    wordOf op 0#32 = w := by
  rw [beq_iff_eq] at h
  exact h.symm.trans BitVec.and_allOnes

/-- A word of a form B row has the row's operation code and a flag. -/
theorem wordOf_of_flagMask {w : Command} {op : BitVec 8} (h : (w &&& 0xFFFFFFFFFE#40 == wordOf op 0#32) = true) :
    wordOf op (flagArg ((argOf w).getLsbD 0)) = w := by
  have hmask : w &&& 0xFFFFFFFFFE#40 = wordOf (opOf w) (argOf w &&& 0xFFFFFFFE#32) := by
    conv_lhs => rw [← wordOf_opOf_argOf w]
    show (opOf w ++ argOf w) &&& (BitVec.allOnes 8 ++ 0xFFFFFFFE#32) = _
    rw [BitVec.and_append, BitVec.and_allOnes]
    rfl
  rw [beq_iff_eq, hmask] at h
  have hop : opOf w = op := by simpa using congrArg opOf h
  have harg : argOf w &&& 0xFFFFFFFE#32 = 0#32 := by simpa using congrArg argOf h
  have hreserved : (argOf w).extractLsb' 1 31 = 0#31 := by
    have hhigh := congrArg (BitVec.extractLsb' 1 31) harg
    rw [BitVec.extractLsb'_and] at hhigh
    exact BitVec.and_allOnes.symm.trans hhigh
  exact wordOf_eq_of_fields hop (flagArg_of_reserved hreserved).symm

/-- Every word of a row is the word of a command of that row. -/
theorem exists_encode_of_fits {r : OpcodeRow} {w : Command} (hr : r ∈ opcodeRows) (hw : r.fits w = true) :
    ∃ i, rowOf i = some r ∧ encode i = w := by
  simp only [opcodeRows, List.cons_append, List.nil_append, List.mem_cons, List.not_mem_nil, or_false] at hr
  obtain rfl | rfl | rfl | rfl | rfl | rfl | rfl | rfl | rfl | rfl | rfl | rfl | rfl | rfl := hr
  · exact ⟨.qntI _, rfl, wordOf_of_opMask hw⟩
  · exact ⟨.qntW _, rfl, wordOf_of_opMask hw⟩
  · exact ⟨.decI, rfl, wordOf_of_fullMask hw⟩
  · exact ⟨.decW, rfl, wordOf_of_fullMask hw⟩
  · exact ⟨.iwStart _, rfl, wordOf_of_opMask hw⟩
  · exact ⟨.iwFeed, rfl, wordOf_of_fullMask hw⟩
  · exact ⟨.iwIval, rfl, wordOf_of_fullMask hw⟩
  · exact ⟨.iwDbg _, rfl, wordOf_of_flagMask hw⟩
  · exact ⟨.wwNew, rfl, wordOf_of_fullMask hw⟩
  · exact ⟨.wwSetwin _, rfl, wordOf_of_opMask hw⟩
  · exact ⟨.wwStart _, rfl, wordOf_of_opMask hw⟩
  · exact ⟨.wwFeed, rfl, wordOf_of_fullMask hw⟩
  · exact ⟨.wwIval, rfl, wordOf_of_fullMask hw⟩
  · exact ⟨.wwEwi _, rfl, wordOf_of_flagMask hw⟩

theorem mem_and_mnemonic_of_rowOf {i : Instr} {r : OpcodeRow} (h : rowOf i = some r) :
    r ∈ opcodeRows ∧ r.mnemonic = mnemonicOf i :=
  ⟨List.mem_of_find?_eq_some h, by simpa using List.find?_some h⟩

theorem encode_injective : Function.Injective encode := by
  intro i j h
  have hi : decode Caps.both (encode i) = .ok i := decode_encode (by cases i <;> rfl)
  have hj : decode Caps.both (encode j) = .ok j := decode_encode (by cases j <;> rfl)
  exact Except.ok.inj (hi.symm.trans ((congrArg _ h).trans hj))

/-- A command exists where its row's capability is present (R46, R50). -/
theorem wellFormed_iff (c : Caps) (i : Instr) :
    WellFormed c i = true ↔ (mnemonicOf i = "IW.DBG" → c.dbg = true) ∧ (mnemonicOf i = "WW.EWI" → c.irq = true) := by
  cases i <;> simp [WellFormed, mnemonicOf]

/-- A command's word fits the command's row. -/
theorem exists_row_of_decode {c : Caps} {w : Command} {i : Instr} (h : decode c w = .ok i) :
    ∃ r ∈ opcodeRows, r.fits w = true ∧ r.mnemonic = mnemonicOf i := by
  obtain ⟨rfl, -⟩ := encode_of_decode h
  obtain ⟨r, hrow, hfits⟩ := tableRow i
  obtain ⟨hr, hname⟩ := mem_and_mnemonic_of_rowOf hrow
  exact ⟨r, hr, hfits, hname⟩

/-- Settles O23: the words of a row are the words of its commands, and a command has one word and one row. -/
theorem opcodeTableDecidesDecoding : Obligations.OpcodeTableDecidesDecoding := by
  refine ⟨fun w r r' hr hr' hw hw' => ?_, fun c w => ⟨fun ⟨i, hi⟩ => ?_, fun ⟨r, hr, hw, hcap⟩ => ?_⟩,
    fun c w i hi => exists_row_of_decode hi⟩
  · obtain ⟨i, hrow, hi⟩ := exists_encode_of_fits hr hw
    obtain ⟨i', hrow', hi'⟩ := exists_encode_of_fits hr' hw'
    obtain rfl := encode_injective (hi.trans hi'.symm)
    exact Option.some.inj (hrow.symm.trans hrow')
  · obtain ⟨-, hwf⟩ := encode_of_decode hi
    obtain ⟨r, hr, hw, hname⟩ := exists_row_of_decode hi
    exact ⟨r, hr, hw, hname ▸ (wellFormed_iff c i).1 hwf⟩
  · obtain ⟨i, hrow, rfl⟩ := exists_encode_of_fits hr hw
    obtain ⟨-, hname⟩ := mem_and_mnemonic_of_rowOf hrow
    exact ⟨i, decode_encode ((wellFormed_iff c i).2 (hname ▸ hcap))⟩

/-- Settles O24: each word is decoded by evaluation. -/
theorem wordsOfEachFamilyDecode : Obligations.WordsOfEachFamilyDecode := by
  unfold Obligations.WordsOfEachFamilyDecode
  decide

end Sys2Proof.Machine
end

section
/-! The command port and the refusal of an illegal word (30_encoding.md R49, R54, R55). -/

namespace Sys2Proof.Machine

/-- A busy block that is not halted refuses a word that is no command (60_exceptions.md R92). -/
theorem wdgqStep_of_decode_error {s : State} {e : DecodeError} (hh : s.halt = false) (hb : s.busy = true)
    (hd : decode s.cfg.caps s.cmdr = .error e) : wdgqStep s = .next (s.raise .illcmd) := by
  simp [wdgqStep, hh, hb, hd]

/-- Settles O7: by the operand form of the word's operation code, and fault entry at decode. -/
theorem illegalWordsRaiseIllcmd : Obligations.IllegalWordsRaiseIllcmd :=
  ⟨exists_decode_error_iff, fun _ _ hh hb hd => wdgqStep_of_decode_error hh hb hd⟩

theorem State.ready_iff (s : State) : s.ready = true ↔ s.busy = false ∧ s.halt = false := by
  simp [State.ready]

/-- A busy block takes nothing from the port: it performs a transaction or enters a fault. -/
theorem wdgqStep_pending_of_busy {s t : State} (hb : s.busy = true) (hh : s.halt = false) (h : wdgqStep s = .next t) :
    t.pending = s.pending := by
  cases hd : decode s.cfg.caps s.cmdr with
  | ok i =>
    obtain ⟨hpending, -⟩ := exec_keeps ((wdgqStep_of_decode hh hb hd).symm.trans h)
    exact hpending
  | error e =>
    cases (wdgqStep_of_decode_error hh hb hd).symm.trans h
    rfl

/-- Settles O4: an idle block takes the oldest word, a busy one leaves the port alone. -/
theorem commandPortHandshake : Obligations.CommandPortHandshake := by
  refine fun s => ⟨s.ready_iff, fun w rest hr hp => ?_, fun hr hp => ?_, fun t => wdgqStep_pending_of_busy⟩
  · obtain ⟨hb, hh⟩ := s.ready_iff.1 hr
    simp [wdgqStep, hb, hh, hp, State.accept]
  · obtain ⟨hb, hh⟩ := s.ready_iff.1 hr
    simp [wdgqStep, hb, hh, hp]

end Sys2Proof.Machine
end

section
/-! The arithmetic of the quantizer and of the decode (40_quantizer.md R57 to R61, R67 to R69). The 64-bit arithmetic is
exact (R58), so every later fact is one about natural numbers; the halving loop finds the closed form of R59, and the
limits and error bounds follow from it by floor division. -/

namespace Sys2Proof.Machine

/-! ### Exactness (40_quantizer.md R58) -/

/-- `U` and `DIV(0)` of the two instantiations (R56). -/
theorem IsInstantiation.constants {q : Instantiation} (h : IsInstantiation q) :
    q.unit.toNat = 1000 ∧ q.div0.toNat = 4 ∨ q.unit.toNat = 1000000 ∧ q.div0.toNat = 4096 := by
  obtain rfl | ⟨c, rfl⟩ := h
  · exact .inl ⟨rfl, rfl⟩
  · exact .inr ⟨rfl, rfl⟩

theorem IsInstantiation.rmax_pos {q : Instantiation} (h : IsInstantiation q) : 0 < q.rmax.toNat := by
  obtain rfl | ⟨c, rfl⟩ := h
  · exact Nat.zero_lt_succ _
  · exact Nat.zero_lt_succ _

/-- The cycles of one count at index 0 are counted in fewer than `2^33` units. -/
theorem IsInstantiation.unit_mul_div0_bounds {q : Instantiation} (h : IsInstantiation q) :
    0 < q.unit.toNat * q.div0.toNat ∧ q.unit.toNat * q.div0.toNat < 2 ^ 33 := by
  obtain ⟨hunit, hdiv0⟩ | ⟨hunit, hdiv0⟩ := h.constants <;> rw [hunit, hdiv0] <;> decide

/-- A division is at most `4096 * 2^7`. -/
theorem IsInstantiation.exactDiv_le {q : Instantiation} (h : IsInstantiation q) (p : BitVec 3) :
    exactDiv q p ≤ 524288 := by
  have hdiv0 : q.div0.toNat ≤ 4096 := by obtain ⟨-, hdiv0⟩ | ⟨-, hdiv0⟩ := h.constants <;> omega
  have hpow : 2 ^ p.toNat ≤ 2 ^ 7 := Nat.pow_le_pow_right (by decide) (by omega)
  exact Nat.mul_le_mul hdiv0 hpow

theorem IsInstantiation.unit_mul_exactDiv_pos {q : Instantiation} (h : IsInstantiation q) (p : BitVec 3) :
    0 < q.unit.toNat * exactDiv q p := by
  obtain ⟨hpos, -⟩ := h.unit_mul_div0_bounds
  rw [exactDiv, ← Nat.mul_assoc]
  exact Nat.mul_pos hpos (Nat.two_pow_pos _)

/-- A duration times a frequency fits 64 bits. -/
theorem duration_mul_freq_lt (d : Duration) (f : Freq) : d.toNat * f.toNat < 2 ^ 64 :=
  calc d.toNat * f.toNat < 2 ^ 32 * 2 ^ 32 := Nat.mul_lt_mul'' d.isLt f.isLt
    _ = 2 ^ 64 := by decide

theorem cycles_toNat {q : Instantiation} (h : IsInstantiation q) (d : Duration) (f : Freq) :
    (cycles q d f).toNat = exactCycles q d f := by
  obtain ⟨-, hlt⟩ := h.unit_mul_div0_bounds
  have hproduct := duration_mul_freq_lt d f
  rw [cycles, exactCycles, durationOperand, BitVec.toNat_udiv, BitVec.toNat_mul, BitVec.toNat_mul,
    BitVec.toNat_setWidth_of_le (by decide), BitVec.toNat_setWidth_of_le (by decide), Nat.mod_eq_of_lt hproduct,
    Nat.mod_eq_of_lt (hlt.trans (by decide))]

theorem div_toNat {q : Instantiation} (h : IsInstantiation q) (p : BitVec 3) : (q.div p).toNat = exactDiv q p := by
  have hle : q.div0.toNat * 2 ^ p.toNat ≤ 524288 := h.exactDiv_le p
  rw [Instantiation.div, BitVec.toNat_shiftLeft, Nat.shiftLeft_eq, Nat.mod_eq_of_lt (by omega), exactDiv]

theorem usPerCycle_toNat {q : Instantiation} (h : IsInstantiation q) (f : Freq) (p : BitVec 3) :
    (usPerCycle q f p).toNat = exactDiv q p * 1000000 / f.toNat := by
  have hle := h.exactDiv_le p
  have hscale : scale.toNat = 1000000 := rfl
  rw [usPerCycle, BitVec.toNat_udiv, BitVec.toNat_mul, div_toNat h, hscale, Nat.mod_eq_of_lt (by omega),
    BitVec.toNat_setWidth_of_le (by decide)]

/-- A decode fits 51 bits. -/
theorem exact_decode_lt {q : Instantiation} (h : IsInstantiation q) (p : BitVec 3) (r : BitVec 12) (f : Freq) :
    r.toNat * (exactDiv q p * 1000000 / f.toNat) < 2 ^ 51 := by
  have hdiv := h.exactDiv_le p
  have hcycle : exactDiv q p * 1000000 / f.toNat < 2 ^ 39 := (Nat.div_le_self ..).trans_lt (by omega)
  calc r.toNat * (exactDiv q p * 1000000 / f.toNat) < 2 ^ 12 * 2 ^ 39 := Nat.mul_lt_mul'' r.isLt hcycle
    _ = 2 ^ 51 := by decide

theorem decodeUs_toNat {q : Instantiation} (h : IsInstantiation q) (p : BitVec 3) (r : BitVec 12) (f : Freq) :
    (decodeUs q p r f).toNat = r.toNat * (exactDiv q p * 1000000 / f.toNat) := by
  have hlt := exact_decode_lt h p r f
  rw [decodeUs, BitVec.toNat_mul, usPerCycle_toNat h, BitVec.toNat_setWidth_of_le (by decide),
    Nat.mod_eq_of_lt (hlt.trans (by decide))]

/-- Settles O26: the constants of both instantiations bound every intermediate value. -/
theorem sixtyFourBitArithmeticIsExact : Obligations.SixtyFourBitArithmeticIsExact := by
  intro q d f p r h
  obtain ⟨hpos, hlt⟩ := h.unit_mul_div0_bounds
  have hdiv := h.exactDiv_le p
  exact ⟨duration_mul_freq_lt d f, hpos, hlt, by omega, exact_decode_lt h p r f, cycles_toNat h d f,
    decodeUs_toNat h p r f⟩

/-! ### The closed form (40_quantizer.md R59) -/

theorem rmax_lt_iff (q : Instantiation) (n : Result) : q.rmax.setWidth 64 < n ↔ q.rmax.toNat < n.toNat := by
  rw [BitVec.lt_def, BitVec.toNat_setWidth_of_le (by decide)]

/-- The loop, started at the index `p` with as many iterations left as there are indices above it, halves the count
until it first fits or the last index is reached. -/
theorem halve_spec {q : Instantiation} {k : Nat} {p : BitVec 3} {n : Result} (hk : p.toNat + k = q.pmax.toNat) :
    ∃ j ≤ k, (halve q k p n).1.toNat = p.toNat + j ∧ (halve q k p n).2.toNat = n.toNat >>> j ∧
      (∀ i < j, q.rmax.toNat < n.toNat >>> i) ∧ (j < k → n.toNat >>> j ≤ q.rmax.toNat) := by
  induction k generalizing p n with
  | zero => exact ⟨0, le_rfl, rfl, rfl, nofun, nofun⟩
  | succ k ih =>
    have hmore : p < q.pmax := by bv_omega
    unfold halve
    split
    next hcond =>
      obtain ⟨hlarge, -⟩ := hcond
      have hnext : (p + 1#3).toNat = p.toNat + 1 := by bv_omega
      obtain ⟨j, hj, hindex, hcount, hbelow, hfits⟩ := ih (p := p + 1#3) (n := n >>> 1) (by omega)
      rw [BitVec.toNat_ushiftRight] at hcount hbelow hfits
      have hshift (i : Nat) : n.toNat >>> (i + 1) = n.toNat >>> 1 >>> i := by rw [Nat.add_comm, Nat.shiftRight_add]
      refine ⟨j + 1, by omega, by omega, by rw [hshift, hcount], fun i hi => ?_, fun hlt => ?_⟩
      · cases i with
        | zero => exact (rmax_lt_iff q n).1 hlarge
        | succ i => rw [hshift]; exact hbelow i (by omega)
      · rw [hshift]; exact hfits (by omega)
    next hcond =>
      have hsmall : n.toNat ≤ q.rmax.toNat := Nat.not_lt.1 fun hlarge => hcond ⟨(rmax_lt_iff q n).2 hlarge, hmore⟩
      exact ⟨0, by omega, rfl, rfl, nofun, fun _ => hsmall⟩

theorem saturate_count_toNat (q : Instantiation) (x : BitVec 3 × Result) :
    (saturate q x).2.toNat = min q.rmax.toNat x.2.toNat := by
  unfold saturate
  dsimp only
  split
  next hlarge =>
    rw [rmax_lt_iff] at hlarge
    omega
  next hfits =>
    rw [rmax_lt_iff] at hfits
    rw [BitVec.toNat_setWidth, Nat.mod_eq_of_lt (by omega)]
    omega

/-- The pair `x` is the closed form of `n` cycles: its index is the least at which they fit, or the last one, and its
count is what they are there, clamped (R59). -/
structure ClosedForm (q : Instantiation) (n : Nat) (x : BitVec 3 × BitVec 12) : Prop where
  least : ∀ k < x.1.toNat, q.rmax.toNat < n >>> k
  fits : x.1.toNat < q.pmax.toNat → n >>> x.1.toNat ≤ q.rmax.toNat
  count : x.2.toNat = min q.rmax.toNat (n >>> x.1.toNat)

theorem closedForm_quantize {q : Instantiation} (h : IsInstantiation q) (d : Duration) (f : Freq) :
    ClosedForm q (exactCycles q d f) (quantize q d f) := by
  obtain ⟨j, -, hindex, hcount, hbelow, hfits⟩ := halve_spec (q := q) (p := 0#3) (n := cycles q d f) (Nat.zero_add _)
  obtain rfl : (quantize q d f).1.toNat = j := hindex.trans (Nat.zero_add _)
  rw [cycles_toNat h] at hcount hbelow hfits
  exact ⟨hbelow, hfits, hcount ▸ saturate_count_toNat ..⟩

/-- Halving the cycles is one floor division by the division of the index. -/
theorem exactCycles_shiftRight (q : Instantiation) (d : Duration) (f : Freq) (p : BitVec 3) :
    exactCycles q d f >>> p.toNat = d.toNat * f.toNat / (q.unit.toNat * exactDiv q p) := by
  rw [exactCycles, exactDiv, Nat.shiftRight_eq_div_pow, Nat.div_div_eq_div_mul, Nat.mul_assoc]

/-- Settles O25: the loop's index is the first at which the count fits, and one index before it the count, twice as
large, did not fit. -/
theorem quantizeClosedForm : Obligations.QuantizeClosedForm := by
  intro q d f h p r n0
  have hform : ClosedForm q n0 (p, r) := closedForm_quantize h d f
  refine ⟨quantize_index_le q d f, hform.fits, hform.least, hform.count, exactCycles_shiftRight q d f p,
    fun hpos hfits => ?_⟩
  have hbefore : q.rmax.toNat < n0 >>> (p.toNat - 1) := hform.least _ (Nat.sub_one_lt_of_lt hpos)
  have hhalf : n0 >>> p.toNat = n0 >>> (p.toNat - 1) / 2 := by
    rw [← Nat.shiftRight_succ, Nat.sub_add_cancel hpos]
  have hcount : r.toNat = min q.rmax.toNat (n0 >>> p.toNat) := hform.count
  omega

/-! ### The limits (40_quantizer.md R67, R68) -/

/-- A count that fits at once stays at index 0. -/
theorem quantize_of_fits {q : Instantiation} (h : IsInstantiation q) {d : Duration} {f : Freq}
    (hfits : exactCycles q d f ≤ q.rmax.toNat) : quantize q d f = (0#3, BitVec.ofNat 12 (exactCycles q d f)) := by
  have hindex : (quantize q d f).1.toNat = 0 := by
    by_contra hpos
    have hlarge := (closedForm_quantize h d f).least _ (Nat.pos_of_ne_zero hpos)
    exact Nat.lt_irrefl _ (hlarge.trans_le hfits)
  have hcount := (closedForm_quantize h d f).count
  rw [hindex, Nat.shiftRight_zero, Nat.min_eq_right hfits] at hcount
  refine Prod.ext (BitVec.eq_of_toNat_eq hindex) (BitVec.eq_of_toNat_eq ?_)
  rw [hcount, BitVec.toNat_ofNat, Nat.mod_eq_of_lt (by omega)]

/-- A request of less than one cycle counts nothing. -/
theorem quantize_of_lt {q : Instantiation} (h : IsInstantiation q) {d : Duration} {f : Freq}
    (hlt : d.toNat * f.toNat < q.unit.toNat * q.div0.toNat) : quantize q d f = (0#3, 0#12) := by
  have hzero : exactCycles q d f = 0 := Nat.div_eq_of_lt hlt
  rw [quantize_of_fits h (by omega), hzero]

/-- Cycles that still make the largest count at the last index give the largest pair. -/
theorem quantize_of_saturated {q : Instantiation} (h : IsInstantiation q) {d : Duration} {f : Freq}
    (hlarge : q.rmax.toNat ≤ exactCycles q d f >>> q.pmax.toNat) : quantize q d f = (q.pmax, q.rmax) := by
  have hrmax := h.rmax_pos
  have hle := quantize_index_le q d f
  have hindex : (quantize q d f).1.toNat = q.pmax.toNat := by
    by_contra hne
    have hfits := (closedForm_quantize h d f).fits (by omega)
    obtain ⟨m, hm⟩ := Nat.exists_eq_add_of_le (Nat.lt_of_le_of_ne hle hne)
    have hhalf : exactCycles q d f >>> q.pmax.toNat ≤ exactCycles q d f >>> (quantize q d f).1.toNat / 2 := by
      rw [hm, Nat.shiftRight_add, Nat.shiftRight_succ]
      exact Nat.shiftRight_le ..
    omega
  have hcount := (closedForm_quantize h d f).count
  rw [hindex, Nat.min_eq_left hlarge] at hcount
  exact Prod.ext (BitVec.eq_of_toNat_eq hindex) (BitVec.eq_of_toNat_eq hcount)

/-- Settles O28: at the last index the request has at least the largest count. -/
theorem tooLongARequestSaturates : Obligations.TooLongARequestSaturates := by
  intro q d f h hlong
  refine quantize_of_saturated h ?_
  rw [exactCycles_shiftRight, Nat.le_div_iff_mul_le (h.unit_mul_exactDiv_pos _)]
  calc q.rmax.toNat * (q.unit.toNat * exactDiv q q.pmax) = q.rmax.toNat * exactDiv q q.pmax * q.unit.toNat := by ring
    _ ≤ d.toNat * f.toNat := hlong.le

/-- A decode has a value at a frequency that is not zero and at an index inside the table (R60). -/
theorem interval_eq_some {q : Instantiation} {p : BitVec 3} {f : Freq} (hf : f ≠ 0#32) (hp : p ≤ q.pmax)
    (r : BitVec 12) : interval q p r f = some (decodeUs q p r f) :=
  if_neg (not_or.2 ⟨hf, BitVec.not_lt.2 hp⟩)

/-- At a zero frequency (R68) or an index outside the table (R69) a decode has no value. -/
theorem interval_eq_none {q : Instantiation} {p : BitVec 3} {f : Freq} (h : f = 0#32 ∨ q.pmax < p)
    (r : BitVec 12) : interval q p r f = none :=
  if_pos h

/-- Settles O29: a zero frequency counts no cycle, and the decode has its two cases. -/
theorem zeroFrequencyAndOutOfTableIndex : Obligations.ZeroFrequencyAndOutOfTableIndex := by
  refine ⟨fun q d h => quantize_of_lt h ?_, fun q p r f => ⟨fun h => interval_eq_none h r,
    fun hf hp => interval_eq_some hf hp r⟩, fun s => rfl⟩
  obtain ⟨hpos, -⟩ := h.unit_mul_div0_bounds
  exact hpos

/-! ### The error bounds (40_quantizer.md R61, R67) -/

theorem freq_pos {f : Freq} (hf : f ≠ 0#32) : 0 < f.toNat :=
  Nat.pos_of_ne_zero fun hzero => hf (BitVec.eq_of_toNat_eq hzero)

section Errors

variable {q : Instantiation} (h : IsInstantiation q)
include h

/-- The pair's duration is never longer than the request (R61 (a)). -/
theorem exact_duration_le (d : Duration) (f : Freq) :
    (quantize q d f).2.toNat * exactDiv q (quantize q d f).1 * q.unit.toNat ≤ d.toNat * f.toNat := by
  have hcount : (quantize q d f).2.toNat ≤ exactCycles q d f >>> (quantize q d f).1.toNat := by
    rw [(closedForm_quantize h d f).count]
    exact Nat.min_le_right ..
  rw [exactCycles_shiftRight, Nat.le_div_iff_mul_le (h.unit_mul_exactDiv_pos _)] at hcount
  rwa [Nat.mul_assoc, Nat.mul_comm (exactDiv ..)]

/-- A count that is not clamped is short of the request by less than one count (R61 (a)). -/
theorem lt_exact_duration_add {d : Duration} {f : Freq}
    (hfits : exactCycles q d f >>> (quantize q d f).1.toNat ≤ q.rmax.toNat) :
    d.toNat * f.toNat <
      ((quantize q d f).2.toNat * exactDiv q (quantize q d f).1 + exactDiv q (quantize q d f).1) * q.unit.toNat := by
  have hnext := Nat.lt_mul_div_succ (d.toNat * f.toNat) (h.unit_mul_exactDiv_pos (quantize q d f).1)
  rw [← exactCycles_shiftRight, ← Nat.min_eq_right hfits, ← (closedForm_quantize h d f).count] at hnext
  calc d.toNat * f.toNat < q.unit.toNat * exactDiv q (quantize q d f).1 * ((quantize q d f).2.toNat + 1) := hnext
    _ = _ := by ring

/-- A clamped count is the largest, and its duration is shorter than the request (R61 (b)). -/
theorem exact_duration_lt_of_clamped {d : Duration} {f : Freq}
    (hlarge : q.rmax.toNat < exactCycles q d f >>> (quantize q d f).1.toNat) :
    (quantize q d f).2 = q.rmax ∧
      (quantize q d f).2.toNat * exactDiv q (quantize q d f).1 * q.unit.toNat < d.toNat * f.toNat := by
  have hcount := (closedForm_quantize h d f).count
  rw [Nat.min_eq_left hlarge.le] at hcount
  refine ⟨BitVec.eq_of_toNat_eq hcount, ?_⟩
  have hpos := h.unit_mul_exactDiv_pos (quantize q d f).1
  rw [exactCycles_shiftRight, Nat.lt_iff_add_one_le, Nat.le_div_iff_mul_le hpos] at hlarge
  rw [hcount]
  calc q.rmax.toNat * exactDiv q (quantize q d f).1 * q.unit.toNat
    _ = q.rmax.toNat * (q.unit.toNat * exactDiv q (quantize q d f).1) := by ring
    _ < (q.rmax.toNat + 1) * (q.unit.toNat * exactDiv q (quantize q d f).1) :=
        Nat.mul_lt_mul_of_pos_right (Nat.lt_succ_self _) hpos
    _ ≤ d.toNat * f.toNat := hlarge

/-- The integer decode of a pair is never longer than the pair's exact duration (R61 (c)). -/
theorem decodeUs_mul_freq_le (p : BitVec 3) (r : BitVec 12) (f : Freq) :
    (decodeUs q p r f).toNat * f.toNat ≤ r.toNat * exactDiv q p * 1000000 := by
  rw [decodeUs_toNat h, Nat.mul_assoc, Nat.mul_assoc]
  exact Nat.mul_le_mul_left _ (Nat.div_mul_le_self ..)

/-- The integer decode of a pair loses less than one microsecond per count (R61 (c), log entry 24). -/
theorem exact_duration_lt_decodeUs_add {f : Freq} (hf : f ≠ 0#32) (p : BitVec 3) {r : BitVec 12} (hr : 0 < r.toNat) :
    r.toNat * exactDiv q p * 1000000 < ((decodeUs q p r f).toNat + r.toNat) * f.toNat := by
  have hfreq := freq_pos hf
  rw [decodeUs_toNat h]
  calc r.toNat * exactDiv q p * 1000000 = r.toNat * (exactDiv q p * 1000000) := Nat.mul_assoc ..
    _ < r.toNat * (f.toNat * (exactDiv q p * 1000000 / f.toNat + 1)) :=
        Nat.mul_lt_mul_of_pos_left (Nat.lt_mul_div_succ _ hfreq) hr
    _ = (r.toNat * (exactDiv q p * 1000000 / f.toNat) + r.toNat) * f.toNat := by ring

/-- The decode of the pair found never exceeds the request (R61 (d), R67 (b), (d)). -/
theorem decodeUs_quantize_le (d : Duration) {f : Freq} (hf : f ≠ 0#32) :
    (decodeUs q (quantize q d f).1 (quantize q d f).2 f).toNat * q.unit.toNat ≤ d.toNat * 1000000 := by
  have hfreq := freq_pos hf
  set p := (quantize q d f).1
  set r := (quantize q d f).2
  refine Nat.le_of_mul_le_mul_right ?_ hfreq
  calc (decodeUs q p r f).toNat * q.unit.toNat * f.toNat
    _ = (decodeUs q p r f).toNat * f.toNat * q.unit.toNat := Nat.mul_right_comm ..
    _ ≤ r.toNat * exactDiv q p * 1000000 * q.unit.toNat := Nat.mul_le_mul_right _ (decodeUs_mul_freq_le h p r f)
    _ = r.toNat * exactDiv q p * q.unit.toNat * 1000000 := Nat.mul_right_comm ..
    _ ≤ d.toNat * f.toNat * 1000000 := Nat.mul_le_mul_right _ (exact_duration_le h d f)
    _ = d.toNat * 1000000 * f.toNat := Nat.mul_right_comm ..

end Errors

/-- Settles O27: the floor division of the count, then that of the decode; in milliseconds `U` is 1000. -/
theorem quantizationErrorIsBounded : Obligations.QuantizationErrorIsBounded := by
  intro q d f h hf p r v exact
  have hrequest : v * q.unit.toNat ≤ d.toNat * 1000000 := decodeUs_quantize_le h d hf
  refine ⟨fun hfits => ⟨exact_duration_le h d f, lt_exact_duration_add h hfits⟩, exact_duration_lt_of_clamped h,
    decodeUs_mul_freq_le h p r f, exact_duration_lt_decodeUs_add h hf p, hrequest, ?_⟩
  rintro rfl
  rw [show instI.unit.toNat = 1000 from rfl] at hrequest
  omega

end Sys2Proof.Machine
end

section
/-! The four commands of the quantizer (40_quantizer.md R63 to R66): one query, then the internal write. -/

namespace Sys2Proof.Machine

/-! ### The pair -/

theorem exec_qntI {s : State} (hs : s.seq = 0#3) (d : Duration) :
    exec (.qntI d) s = .next (s.queryAndQuantize instI d).complete := by
  simp [exec, execQntI, hs]

theorem exec_qntW {s : State} (hs : s.seq = 0#3) (d : Duration) :
    exec (.qntW d) s = .next (s.queryAndQuantize (instW s.cfg) d).complete := by
  simp [exec, execQntW, hs]

theorem unit_mul_div0_instW (c : Config) : (instW c).unit.toNat * (instW c).div0.toNat = 4096000000 := by
  have hunit : (instW c).unit.toNat = 1000000 := rfl
  have hdiv0 : (instW c).div0.toNat = 4096 := rfl
  rw [hunit, hdiv0]

theorem exactCycles_instI (d : Duration) (f : Freq) : exactCycles instI d f = d.toNat * f.toNat / 4000 := rfl

theorem exactCycles_instW (c : Config) (d : Duration) (f : Freq) :
    exactCycles (instW c) d f = d.toNat * f.toNat / 4096000000 := by
  rw [exactCycles, unit_mul_div0_instW]

/-- A request of fewer than `2^18` cycles is not clamped by the independent watchdog's range. -/
theorem quantize_instI_count {d : Duration} {f : Freq} (hlt : d.toNat * f.toNat / 4000 < 262144) :
    (quantize instI d f).2.toNat = d.toNat * f.toNat / 4000 / 2 ^ (quantize instI d f).1.toNat := by
  have h : IsInstantiation instI := .inl rfl
  have hrmax : instI.rmax.toNat = 4095 := rfl
  have hpmax : instI.pmax.toNat = 6 := rfl
  have hfits : exactCycles instI d f >>> (quantize instI d f).1.toNat ≤ 4095 := by
    obtain hin | hlast := (quantize_index_le instI d f).lt_or_eq
    · exact (closedForm_quantize h d f).fits hin
    · rw [hlast, hpmax, exactCycles_instI, Nat.shiftRight_eq_div_pow]
      omega
  rw [(closedForm_quantize h d f).count, hrmax, Nat.min_eq_right hfits, exactCycles_instI, Nat.shiftRight_eq_div_pow]

/-- A request of `2^18` cycles or more is clamped by it. -/
theorem quantize_instI_saturated {d : Duration} {f : Freq} (hlarge : 262144 ≤ d.toNat * f.toNat / 4000) :
    quantize instI d f = (6#3, 0xFFF#12) := by
  refine quantize_of_saturated (.inl rfl) ?_
  have hrmax : instI.rmax.toNat = 4095 := rfl
  have hpmax : instI.pmax.toNat = 6 := rfl
  rw [hrmax, hpmax, exactCycles_instI, Nat.shiftRight_eq_div_pow]
  omega

theorem quantize_instW_of_lt (c : Config) {d : Duration} {f : Freq} (hlt : d.toNat * f.toNat < 4096000000) :
    quantize (instW c) d f = (0#3, 0#12) := by
  refine quantize_of_lt (.inr ⟨c, rfl⟩) ?_
  rwa [unit_mul_div0_instW]

/-- Settles O40: the query and the pair, and the limits of the closed form for this instantiation. -/
theorem qntIWritesThePair : Obligations.QntIWritesThePair :=
  ⟨fun d s hs => exec_qntI hs d, fun c d => decode_encode (i := .qntI d) rfl, fun d f => quantize_of_lt (.inl rfl),
    fun d f => quantize_instI_count, fun d f => quantize_instI_saturated, by decide⟩

/-- Settles O41: the query and the pair, for every `PMAX_W`. -/
theorem qntWWritesThePair : Obligations.QntWWritesThePair := by
  refine ⟨fun d s hs => exec_qntW hs d, fun c d => decode_encode (i := .qntW d) rfl, fun c d f => ?_,
    fun c d f => quantize_instW_of_lt c, fun c => ?_⟩
  · have hle : (quantize (instW c) d f).2.toNat ≤ 63 := quantize_count_le (instW c) d f
    generalize (quantize (instW c) d f).2 = r at hle
    refine BitVec.eq_of_toNat_eq ?_
    rw [BitVec.extractLsb'_toNat, Nat.shiftRight_eq_div_pow, Nat.div_eq_of_lt (by omega)]
    rfl
  · have hone : exactCycles (instW c) 5120#32 1000000#32 = 1 := by simp [exactCycles_instW]
    have hrmax : (instW c).rmax.toNat = 63 := rfl
    rw [quantize_of_fits (.inr ⟨c, rfl⟩) (by omega), hone]

/-! ### The result -/

theorem exec_decI {s : State} (hs : s.seq = 0#3) : exec .decI s = .next (s.queryAndDecode instI).complete := by
  simp [exec, execDecI, hs]

theorem exec_decW {s : State} (hs : s.seq = 0#3) :
    exec .decW s = .next (s.queryAndDecode (instW s.cfg)).complete := by
  simp [exec, execDecW, hs]

theorem freq_instI (e : Env) : e.freq instI.dom = e.lsi := rfl

theorem freq_instW (c : Config) (e : Env) : e.freq (instW c).dom = e.pclk := rfl

/-- Stated for any value `v`, so that no proof compares two decodes by computing them. -/
theorem State.clkQuery_setRes_complete (s : State) (dom : Domain) (v : Result) :
    ((s.clkQuery dom).setRes (some v)).complete = { s with
      fq := s.env.freq dom
      res := v
      trace := s.trace ++ [.clkQuery dom (s.env.freq dom)]
      busy := false
      seq := 0#3 } := rfl

/-- Where the queried frequency `f` is not zero and the index is inside the table, the result is the decode of R60. -/
theorem State.queryAndDecode_complete {s : State} {q : Instantiation} {f : Freq} (hdom : s.env.freq q.dom = f)
    (hf : f ≠ 0#32) (hp : s.qp ≤ q.pmax) :
    (s.queryAndDecode q).complete = { s with
      fq := f
      res := decodeUs q s.qp s.qr f
      trace := s.trace ++ [.clkQuery q.dom f]
      busy := false
      seq := 0#3 } := by
  subst hdom
  have hres : s.queryAndDecode q = (s.clkQuery q.dom).setRes (some (decodeUs q s.qp s.qr (s.env.freq q.dom))) :=
    congrArg (s.clkQuery q.dom).setRes (interval_eq_some hf hp s.qr)
  rw [hres, State.clkQuery_setRes_complete]

/-- Elsewhere the result is a free value (R68, R69). -/
theorem State.queryAndDecode_complete_free {s : State} {q : Instantiation} {f : Freq} (hdom : s.env.freq q.dom = f)
    (h : f = 0#32 ∨ q.pmax < s.qp) :
    (s.queryAndDecode q).complete = { s with
      fq := f
      res := Config.draw 64 s.draws
      draws := s.draws + 1
      trace := s.trace ++ [.clkQuery q.dom f]
      busy := false
      seq := 0#3 } := by
  subst hdom
  have hres : s.queryAndDecode q = (s.clkQuery q.dom).setRes none :=
    congrArg (s.clkQuery q.dom).setRes (interval_eq_none h s.qr)
  rw [hres]
  rfl

/-- A frequency above the division times `10^6` makes a cycle shorter than one microsecond. -/
theorem decodeUs_of_lt {q : Instantiation} (h : IsInstantiation q) {p : BitVec 3} {f : Freq}
    (hlt : exactDiv q p * 1000000 < f.toNat) (r : BitVec 12) : decodeUs q p r f = 0#64 := by
  refine BitVec.eq_of_toNat_eq ?_
  rw [decodeUs_toNat h, Nat.div_eq_of_lt hlt]
  rfl

/-- The decode does not depend on `PMAX_W`. -/
theorem decodeUs_instW (c : Config) : decodeUs (instW c) = decodeUs (instW Config.default) := rfl

/-- The operand of a command of form N is reserved (30_encoding.md R48). -/
theorem decode_decI (c : Caps) (a : BitVec 32) :
    decode c (0x03#8 ++ a) = if a = 0#32 then .ok .decI else .error .reservedBits := by
  change decode c (wordOf 0x03#8 a) = _
  simp [decode, formN]

theorem decode_decW (c : Caps) (a : BitVec 32) :
    decode c (0x04#8 ++ a) = if a = 0#32 then .ok .decW else .error .reservedBits := by
  change decode c (wordOf 0x04#8 a) = _
  simp [decode, formN]

/-- Settles O42: the query and the decode, or the free value, with the last index 6. -/
theorem decIWritesTheResult : Obligations.DecIWritesTheResult := by
  refine ⟨fun s hs hf hp => ?_, fun s hs hout => ?_, decode_decI, fun p r f hlt => decodeUs_of_lt (.inl rfl) hlt r,
    by decide⟩
  · rw [exec_decI hs, State.queryAndDecode_complete (freq_instI s.env) hf hp]
    rfl
  · rw [exec_decI hs, State.queryAndDecode_complete_free (freq_instI s.env) hout]
    rfl

/-- Settles O43: the query and the decode, or the free value, with the last index `PMAX_W`. -/
theorem decWWritesTheResult : Obligations.DecWWritesTheResult := by
  refine ⟨fun s hs hf hp => ?_, fun s hs hout => ?_, decode_decW, fun c => ?_⟩
  · rw [exec_decW hs, State.queryAndDecode_complete (freq_instW s.cfg s.env) hf hp]
    rfl
  · rw [exec_decW hs, State.queryAndDecode_complete_free (freq_instW s.cfg s.env) hout]
    rfl
  · rw [decodeUs_instW]
    decide

end Sys2Proof.Machine
end

section
/-! The unlock scope between the steps (41_iwdg.md R75, 60_exceptions.md R97): that no fault leaves it open rests on the
invariant, which puts the scope inside `IW.START`. -/

namespace Sys2Proof.Machine

/-- A step inside the scope performs one of transactions [2] to [4] of `IW.START`, which no check precedes and none of
which is the last. -/
theorem exec_inside_scope {s u : State} {d : Duration} (hb : s.busy = true) (h2 : 2 ≤ s.seq.toNat)
    (h4 : s.seq.toNat ≤ 4) (hu : exec (.iwStart d) s = .next u) :
    u.halt = s.halt ∧ u.fault = s.fault ∧ u.busy = true := by
  obtain ⟨x, -, hxu⟩ := exec_inv hu
  cases hxu with
  | seqerr hi => cases hi
  | wzero d' hi => cases hi
  | moves =>
    rw [moveOn_performed_of_lt x (show s.seq.toNat + 1 < 6 by omega)]
    simp [hb]

theorem inScope_iff (s : State) :
    inScope s = true ↔ s.busy = true ∧ opOf s.cmdr = 0x10#8 ∧ 2 ≤ s.seq.toNat ∧ s.seq.toNat ≤ 4 := by
  simp [inScope]

theorem Invariant.halt_of_busy {s : State} (h : Invariant s) (hb : s.busy = true) : s.halt = false := by
  by_contra hh
  cases hb.symm.trans (h.halt_idle (by simpa using hh))

/-- Where the scope is open the command in progress is `IW.START`. -/
theorem Invariant.decode_of_inScope {s : State} (h : Invariant s) (hin : inScope s = true) :
    ∃ d, decode s.cfg.caps s.cmdr = .ok (.iwStart d) := by
  obtain ⟨hb, hop, h2, -⟩ := (inScope_iff s).1 hin
  have hs : s.seq ≠ 0#3 := fun hs => by simp [hs] at h2
  obtain ⟨i, hd, -, -⟩ := h.progress hb hs
  obtain ⟨d, rfl⟩ := (opOf_eq_iff_of_decode hd).1 hop
  exact ⟨d, hd⟩

/-- Settles O35: an idle block's scope is closed by the invariant, and of a step's four forms only a transaction of
`IW.START` is possible inside an open one. -/
theorem unlockScopeIsAlwaysClosed : Obligations.UnlockScopeIsAlwaysClosed := by
  intro s t h hstep
  refine ⟨fun hidle => ?_, fun hin hr => ?_⟩
  · rw [(everyStepKeepsTheInvariant s t h hstep).scopeOf_trace, scope_of_idle hidle]
  · obtain ⟨hb, -, h2, h4⟩ := (inScope_iff s).1 hin
    obtain ⟨d, hd⟩ := h.decode_of_inScope hin
    obtain ⟨i, q, u, e, n, -, hh, -, -, hd', hu, rfl⟩ | ⟨-, -, -, ⟨e, he⟩, -⟩ | ⟨-, hidle, -⟩ | ⟨ws, e, n, q, rfl⟩ :=
      step_forms hstep hr
    · obtain rfl : i = .iwStart d := Except.ok.inj (hd'.symm.trans hd)
      obtain ⟨hhalt, hfault, hbusy⟩ := exec_inside_scope (s := { s with sched := q }) hb h2 h4 hu
      exact ⟨hhalt.trans hh, hfault, hbusy⟩
    · cases he.symm.trans hd
    · cases hb.symm.trans hidle
    · exact ⟨h.halt_of_busy hb, rfl, hb⟩

end Sys2Proof.Machine
end

section
/-! Runs of one command with nothing else scheduled (30_encoding.md R55): acceptance, then its transactions, one step
each; and what the register writes of such a run leave in the environment. -/

namespace Sys2Proof.Machine

/-- The meaning of a command is evaluated at the transaction that `SEQ` numbers (10_state.md R13). -/
theorem exec_of_seq {i : Instr} {s : State} {k : BitVec 3} {o : Host.Outcome State Fault Refusal} (hs : s.seq = k)
    (ho : exec i { s with seq := k } = o) : exec i s = o := by
  subst hs
  exact ho

/-- The first step of such a run accepts the word. -/
theorem steps_of_presented {k : Nat} {s : State} {w : Command} {rest : List Command}
    {o : Host.Outcome State Fault Refusal} (hs : s.sched = []) (hh : s.halt = false) (hb : s.busy = false)
    (hp : s.pending = w :: rest) (ho : steps k (s.accept w rest) = o) : steps (k + 1) s = o :=
  (steps_succ (step_accepts hs hh hb hp)).trans ho

/-- Each later one performs a transaction of the command. -/
theorem steps_of_exec {k : Nat} {i : Instr} {s t : State} {o : Host.Outcome State Fault Refusal} (hs : s.sched = [])
    (hh : s.halt = false) (hb : s.busy = true) (hd : decode s.cfg.caps s.cmdr = .ok i) (ht : exec i s = .next t)
    (ho : steps k t = o) : steps (k + 1) s = o := by
  have hstep : step s = wdgqStep s := by simp [step, nextMove, hs]
  exact (steps_succ (hstep.trans ((wdgqStep_of_decode hh hb hd).trans ht))).trans ho

/-! ### The fields (10_state.md R26, 20_memory.md R31) -/

/-- A field that none of several writes names keeps its value (20_memory.md R31). -/
theorem Env.writes_get_other {fb : Field} (ws : List FieldWrite) (e : Env) (n : Nat) (h : ∀ x ∈ ws, fb ≠ x.field) :
    (e.writes ws n).fields.get fb = e.fields.get fb := by
  induction ws generalizing e n with
  | nil => rfl
  | cons x xs ih =>
    rw [List.forall_mem_cons] at h
    obtain ⟨hx, hxs⟩ := h
    exact (ih _ _ hxs).trans (e.write_get_other _ _ hx)

theorem Env.stored_pr_of_unlocked {e : Env} (h : e.unlocked = true) (v : BitVec 3) (n : Nat) : e.stored .pr v n = v :=
  if_pos h

theorem Env.stored_rl_of_unlocked {e : Env} (h : e.unlocked = true) (v : BitVec 12) (n : Nat) : e.stored .rl v n = v :=
  if_pos h

/-! ### The keys (60_exceptions.md R102) -/

@[simp] theorem Env.write_keyUnlock_unlocked (e : Env) (n : Nat) : (e.write .key keyUnlock n).unlocked = true := by
  simp [Env.write, Env.lockAfter, Env.lockAfterKey]

@[simp] theorem Env.write_keyFeed_unlocked (e : Env) (n : Nat) : (e.write .key keyFeed n).unlocked = false := by
  simp [Env.write, Env.lockAfter, Env.lockAfterKey, keyFeed, keyUnlock]

/-- The start key opens nothing (log entry 10). -/
theorem Env.write_keyStart_unlocked {e : Env} (h : e.unlocked = false) (n : Nat) :
    (e.write .key keyStart n).unlocked = false := by
  simp [Env.write, Env.lockAfter, Env.lockAfterKey, h, keyStart, keyUnlock, keyFeed]

@[simp] theorem Env.write_keyStart_counting (e : Env) (n : Nat) : (e.write .key keyStart n).counting = true := by
  simp [Env.write, Env.countAfter, Env.countAfterKey]

end Sys2Proof.Machine
end

section
/-! The four commands of the independent watchdog (41_iwdg.md R71 to R74): their transactions, and the runs of the two
that have more than one. -/

namespace Sys2Proof.Machine

/-! ### `IW.START` (41_iwdg.md R71) -/

section IwStart

variable {s : State} (d : Duration)

theorem exec_iwStart_query (hs : s.seq = 0#3) :
    exec (.iwStart d) s = .next { s.queryAndQuantize instI d with seq := 1#3 } := exec_of_seq hs rfl

theorem exec_iwStart_unlock (hs : s.seq = 1#3) :
    exec (.iwStart d) s = .next { s.memWrite .key keyUnlock with seq := 2#3 } := exec_of_seq hs rfl

theorem exec_iwStart_index (hs : s.seq = 2#3) :
    exec (.iwStart d) s = .next { s.memWrite .pr (s.pairFor instI d).1 with seq := 3#3 } := exec_of_seq hs rfl

theorem exec_iwStart_reload (hs : s.seq = 3#3) :
    exec (.iwStart d) s = .next { s.memWrite .rl (s.pairFor instI d).2 with seq := 4#3 } := exec_of_seq hs rfl

theorem exec_iwStart_lock (hs : s.seq = 4#3) :
    exec (.iwStart d) s = .next { s.memWrite .key keyFeed with seq := 5#3 } := exec_of_seq hs rfl

theorem exec_iwStart_start (hs : s.seq = 5#3) :
    exec (.iwStart d) s =
      .next { s.memWrite .key keyStart with iwdgSt := .running, busy := false, seq := 0#3 } := exec_of_seq hs rfl

end IwStart

/-- Settles O44: one lemma per transaction, each an arm of the command's meaning. -/
theorem iwStartTransactions : Obligations.IwStartTransactions := fun d _ =>
  ⟨exec_iwStart_query d, exec_iwStart_unlock d, exec_iwStart_index d, exec_iwStart_reload d, exec_iwStart_lock d,
    exec_iwStart_start d⟩

/-- The five register writes of `IW.START` for the pair `x`. -/
def iwStartWrites (x : BitVec 3 × BitVec 12) : List FieldWrite :=
  [⟨.key, keyUnlock⟩, ⟨.pr, x.1⟩, ⟨.rl, x.2⟩, ⟨.key, keyFeed⟩, ⟨.key, keyStart⟩]

section IwStartWrites

variable (e : Env) (x : BitVec 3 × BitVec 12) (n : Nat)

theorem writes_iwStartWrites_unlocked : (e.writes (iwStartWrites x) n).unlocked = false :=
  Env.write_keyStart_unlocked (Env.write_keyFeed_unlocked ..) _

theorem writes_iwStartWrites_counting : (e.writes (iwStartWrites x) n).counting = true :=
  Env.write_keyStart_counting ..

theorem writes_iwStartWrites_key : (e.writes (iwStartWrites x) n).fields.key = keyStart := rfl

/-- The index is written unlocked, and no later write names it. -/
theorem writes_iwStartWrites_pr : (e.writes (iwStartWrites x) n).fields.pr = x.1 := by
  have hlater : (e.writes (iwStartWrites x) n).fields.get .pr = (e.write .key keyUnlock n).stored .pr x.1 (n + 2) :=
    (Env.writes_get_other [⟨.rl, x.2⟩, ⟨.key, keyFeed⟩, ⟨.key, keyStart⟩] _ _ (by simp)).trans (Env.write_get_same ..)
  exact hlater.trans (Env.stored_pr_of_unlocked (e.write_keyUnlock_unlocked n) ..)

/-- The count too: the write of the index leaves the protection open. -/
theorem writes_iwStartWrites_rl : (e.writes (iwStartWrites x) n).fields.rl = x.2 := by
  have hlater : (e.writes (iwStartWrites x) n).fields.get .rl =
      ((e.write .key keyUnlock n).write .pr x.1 (n + 2)).stored .rl x.2 (n + 2 + 2) :=
    (Env.writes_get_other [⟨.key, keyFeed⟩, ⟨.key, keyStart⟩] _ _ (by simp)).trans (Env.write_get_same ..)
  exact hlater.trans (Env.stored_rl_of_unlocked (e.write_keyUnlock_unlocked n) ..)

theorem writes_iwStartWrites_get_other {fa : Field} (hkey : fa ≠ .key) (hpr : fa ≠ .pr) (hrl : fa ≠ .rl) :
    (e.writes (iwStartWrites x) n).fields.get fa = e.fields.get fa :=
  Env.writes_get_other _ e n (by simp [iwStartWrites, hkey, hpr, hrl])

end IwStartWrites

/-- Settles O45: the acceptance and the six transactions, with the environment after the command's five writes. -/
theorem iwStartRunArmsTheWatchdog : Obligations.IwStartRunArmsTheWatchdog := by
  intro d s rest hs hh hb hp
  have hd : decode s.cfg.caps (encode (.iwStart d)) = .ok (.iwStart d) := decode_encode rfl
  refine ⟨s.env.writes (iwStartWrites (quantize instI d s.env.lsi)) s.draws, ?_, Env.writes_lsi .., Env.writes_pclk ..,
    writes_iwStartWrites_unlocked .., writes_iwStartWrites_counting .., writes_iwStartWrites_key ..,
    writes_iwStartWrites_pr .., writes_iwStartWrites_rl .., fun _ => writes_iwStartWrites_get_other _ _ _⟩
  · -- After each step the state is brought back to one record over `s`: a record over a record over ... grows too fast.
    refine steps_of_presented hs hh hb hp ?_
    refine steps_of_exec hs hh rfl hd (exec_iwStart_query d rfl) ?_
    dsimp only [State.accept, State.queryAndQuantize, State.clkQuery, State.emit, State.setPair, State.pairFor]
    refine steps_of_exec hs hh rfl hd (exec_iwStart_unlock d rfl) ?_
    dsimp only [State.memWrite, State.emit]
    refine steps_of_exec hs hh rfl hd (exec_iwStart_index d rfl) ?_
    dsimp only [State.memWrite, State.emit, State.pairFor]
    refine steps_of_exec hs hh rfl hd (exec_iwStart_reload d rfl) ?_
    dsimp only [State.memWrite, State.emit, State.pairFor]
    refine steps_of_exec hs hh rfl hd (exec_iwStart_lock d rfl) ?_
    dsimp only [State.memWrite, State.emit]
    refine steps_of_exec hs hh rfl hd (exec_iwStart_start d rfl) ?_
    simp [freq_instI]
    exact ⟨⟨rfl, rfl, rfl, rfl⟩, rfl, rfl⟩

/-! ### `IW.FEED` (41_iwdg.md R72) -/

theorem decode_iwFeed (c : Caps) (a : BitVec 32) :
    decode c (0x11#8 ++ a) = if a = 0#32 then .ok .iwFeed else .error .reservedBits := by
  change decode c (wordOf 0x11#8 a) = _
  simp [decode, formN]

/-- Settles O46: the one write, and a reserved operand. -/
theorem iwFeedWritesTheRefreshKey : Obligations.IwFeedWritesTheRefreshKey :=
  ⟨fun _ hs => exec_of_seq hs rfl, decode_iwFeed⟩

/-! ### `IW.IVAL` (41_iwdg.md R73) -/

section IwIval

variable {s : State}

theorem exec_iwIval_query (hs : s.seq = 0#3) :
    exec .iwIval s = .next { s.clkQuery .lsi with seq := 1#3 } := exec_of_seq hs rfl

theorem exec_iwIval_index (hs : s.seq = 1#3) :
    exec .iwIval s = .next { s.memRead .pr with rb := s.env.fields.pr, seq := 2#3 } := exec_of_seq hs rfl

/-- Stated for any value `v`, so that no proof compares two decodes by computing them. -/
theorem exec_iwIval_result {v : Result} (hs : s.seq = 2#3)
    (hv : toMs (interval instI s.rb s.env.fields.rl s.fq) = some v) :
    exec .iwIval s = .next { s.memRead .rl with res := v, busy := false, seq := 0#3 } := by
  simp [exec, execIwIval, hs, State.fieldValue, Fields.get, hv, State.setRes, State.complete]

theorem exec_iwIval_free (hs : s.seq = 2#3) (hv : toMs (interval instI s.rb s.env.fields.rl s.fq) = none) :
    exec .iwIval s = .next { s.memRead .rl with
      res := Config.draw 64 s.draws, draws := s.draws + 1, busy := false, seq := 0#3 } := by
  simp [exec, execIwIval, hs, State.fieldValue, Fields.get, hv, State.setRes, State.complete]

end IwIval

theorem toMs_interval_eq_some {q : Instantiation} {p : BitVec 3} {f : Freq} (hf : f ≠ 0#32) (hp : p ≤ q.pmax)
    (r : BitVec 12) : toMs (interval q p r f) = some (decodeUs q p r f / 1000#64) :=
  congrArg toMs (interval_eq_some hf hp r)

theorem toMs_interval_eq_none {q : Instantiation} {p : BitVec 3} {f : Freq} (h : f = 0#32 ∨ q.pmax < p)
    (r : BitVec 12) : toMs (interval q p r f) = none :=
  congrArg toMs (interval_eq_none h r)

theorem decode_iwIval (c : Caps) (a : BitVec 32) :
    decode c (0x12#8 ++ a) = if a = 0#32 then .ok .iwIval else .error .reservedBits := by
  change decode c (wordOf 0x12#8 a) = _
  simp [decode, formN]

/-- Settles O47: the third transaction has a value inside the table at a frequency that is not zero, and none elsewhere. -/
theorem iwIvalTransactions : Obligations.IwIvalTransactions := by
  refine ⟨fun s => ⟨exec_iwIval_query, exec_iwIval_index, fun hs hf hp => ?_, fun hs hout => ?_⟩, decode_iwIval,
    by decide⟩
  · exact exec_iwIval_result hs (toMs_interval_eq_some hf hp _)
  · exact exec_iwIval_free hs (toMs_interval_eq_none hout _)

/-- Settles O48: the two reads are answered with the fields, and the decode is theirs. -/
theorem iwIvalRunReportsTheFields : Obligations.IwIvalRunReportsTheFields := by
  intro s rest hs hh hb hp hf hpr
  have hd : decode s.cfg.caps (encode .iwIval) = .ok .iwIval := decode_encode rfl
  have hv := toMs_interval_eq_some (q := instI) hf hpr s.env.fields.rl
  refine steps_of_presented hs hh hb hp ?_
  refine steps_of_exec hs hh rfl hd (exec_iwIval_query rfl) ?_
  refine steps_of_exec hs hh rfl hd (exec_iwIval_index rfl) ?_
  refine steps_of_exec hs hh rfl hd (exec_iwIval_result rfl hv) ?_
  simp [State.fieldValue, Fields.get, Env.freq]

/-! ### `IW.DBG` (41_iwdg.md R74) -/

/-- The operand of form B: reserved from 2 on, and else the flag (30_encoding.md R45, R48). -/
theorem formB_eq (a : BitVec 32) (f : Bool → Instr) :
    formB a f = if 2 ≤ a.toNat then .error .reservedBits else .ok (f (a == 1#32)) := by
  unfold formB
  by_cases ha : 2 ≤ a.toNat
  · rw [if_pos ha, if_neg (mt (reserved_eq_zero_iff a).1 (by omega))]
  · rw [if_neg ha, if_pos ((reserved_eq_zero_iff a).2 (by omega))]
    obtain rfl | rfl : a = 0#32 ∨ a = 1#32 := by bv_omega
    · rfl
    · rfl

/-- Settles O49: the one write; the capability is checked before the operand. -/
theorem iwDbgWritesTheFreezeBit : Obligations.IwDbgWritesTheFreezeBit := by
  refine ⟨fun stop s hs => exec_of_seq hs rfl, fun c a => ?_⟩
  change decode c (wordOf 0x13#8 a) = _
  cases hc : c.dbg <;> simp [decode, ifCap, hc, formB_eq]

end Sys2Proof.Machine
end

section
/-! Who writes the cached reload (42_wwdg.md R87). -/

namespace Sys2Proof.Machine

/-- One transaction changes the cached reload only where it is transaction [1] of `WW.START`. -/
theorem exec_rlc {i : Instr} {s t : State} (h : exec i s = .next t) :
    t.rlc = s.rlc ∨ ((∃ d, i = .wwStart d) ∧ s.seq = 1#3) := by
  obtain ⟨x, -, hxt⟩ := exec_inv h
  have hperformed : (s.performed i x).rlc = s.rlc ∨ ((∃ d, i = .wwStart d) ∧ s.seq = 1#3) := by
    have hwrites := performed_writes i s x
    generalize s.performed i x = u at hwrites ⊢
    cases hwrites with
    | reload _ d hi hs => exact .inr ⟨⟨d, hi⟩, by simpa using hs⟩
    | _ => exact .inl (by simp)
  cases hxt with
  | seqerr => exact .inl rfl
  | wzero => exact hperformed
  | moves => rwa [State.moveOn_frame]

/-- Settles O13: of a step's four forms only a transaction can change the cached reload. -/
theorem onlyWwStartWritesTheCachedReload : Obligations.OnlyWwStartWritesTheCachedReload := by
  refine ⟨fun s t h hr => ?_, fun d s t h => ?_⟩
  · obtain ⟨i, q, u, e, n, hrun, -, -, -, -, hu, rfl⟩ | ⟨-, -, -, -, e, n, q, rfl⟩ | ⟨-, -, w, rest, e, n, q, rfl⟩ |
      ⟨ws, e, n, q, rfl⟩ := step_forms h hr
    · obtain hsame | ⟨⟨d, rfl⟩, hs⟩ := exec_rlc hu
      · exact .inl hsame
      · exact .inr ⟨d, hrun, hs⟩
    · exact .inl rfl
    · exact .inl rfl
    · exact .inl rfl
  · exact (exec_rlc h).resolve_right fun ⟨⟨_, hi⟩, _⟩ => nomatch hi

end Sys2Proof.Machine
end

section
/-! What the window watchdog's commands rest on: the two checks (60_exceptions.md R91, R93), the count, the fields
behind the bus-clock gate (20_memory.md R42), and the words without an operand. -/

namespace Sys2Proof.Machine

theorem State.ifConstructed_of_wck {s : State} (h : s.wck = true) (go : State) : s.ifConstructed go = go := if_pos h

theorem State.ifCounted_of_ne {s : State} (h : s.qr ≠ 0#12) : s.ifCounted = s.advance := if_neg h

/-! ### The count (40_quantizer.md R59) -/

/-- A request of at least one cycle counts something: a count that had to be halved was larger than `RMAX` before. -/
theorem quantize_count_ne_zero (c : Config) {d : Duration} {f : Freq} (h : 4096000000 ≤ d.toNat * f.toNat) :
    (quantize (instW c) d f).2 ≠ 0#12 := by
  have hform := closedForm_quantize (.inr ⟨c, rfl⟩) d f
  have hrmax : (instW c).rmax.toNat = 63 := rfl
  have hpos : 0 < exactCycles (instW c) d f >>> (quantize (instW c) d f).1.toNat := by
    cases hp : (quantize (instW c) d f).1.toNat with
    | zero =>
      rw [exactCycles_instW]
      exact Nat.div_pos h (by decide)
    | succ k =>
      have hbefore := hform.least k (by omega)
      rw [Nat.shiftRight_succ]
      omega
  have hcount := hform.count
  intro hzero
  rw [hzero, BitVec.toNat_ofNat] at hcount
  omega

/-- The window watchdog's count fits the cached reload. -/
theorem toNat_setWidth_count (c : Config) (d : Duration) (f : Freq) :
    ((quantize (instW c) d f).2.setWidth 6).toNat = (quantize (instW c) d f).2.toNat := by
  rw [BitVec.toNat_setWidth]
  exact Nat.mod_eq_of_lt (Nat.lt_succ_of_le (quantize_count_le (instW c) d f))

/-! ### What a write leaves in a field of the window watchdog (20_memory.md R31, R42) -/

/-- A write that no later one names again decides what the field holds. -/
theorem Env.writes_cons_get_same (e : Env) {fa : Field} (v : BitVec fa.width) (ws : List FieldWrite) (n : Nat)
    (h : ∀ x ∈ ws, fa ≠ x.field) : (e.writes (⟨fa, v⟩ :: ws) n).fields.get fa = e.stored fa v n :=
  (Env.writes_get_other ws _ _ h).trans (e.write_get_same ..)

/-- Writes keep what each of them keeps. -/
theorem Env.writes_keeps {α : Type} (p : Env → α) (e : Env) (ws : List FieldWrite) (n : Nat)
    (h : ∀ x ∈ ws, ∀ e n, p (Env.write e x.field x.value n) = p e) : p (e.writes ws n) = p e := by
  induction ws generalizing e n with
  | nil => rfl
  | cons x xs ih =>
    rw [List.forall_mem_cons] at h
    obtain ⟨hx, hxs⟩ := h
    exact (ih _ _ hxs).trans (hx e n)

/-- Writes that name no key leave the write protection and the countdown alone. -/
theorem Env.writes_unlocked_of_ne_key (e : Env) (ws : List FieldWrite) (n : Nat) (h : ∀ x ∈ ws, x.field ≠ .key) :
    (e.writes ws n).unlocked = e.unlocked :=
  Env.writes_keeps Env.unlocked e ws n fun x hx e n => e.write_unlocked_of_ne_key x.value n (h x hx)

theorem Env.writes_counting_of_ne_key (e : Env) (ws : List FieldWrite) (n : Nat) (h : ∀ x ∈ ws, x.field ≠ .key) :
    (e.writes ws n).counting = e.counting :=
  Env.writes_keeps Env.counting e ws n fun x hx e n => e.write_counting_of_ne_key x.value n (h x hx)

section OpenGate

variable {e : Env}

theorem Env.gated_of_open (h : e.fields.clkgate = 1#1) {w : Nat} (v : BitVec w) (n : Nat) : e.gated v n = v := if_pos h

/-- Writing 1 to `wdga` sets it (10_state.md R23). -/
theorem Env.stored_wdga_one (h : e.fields.clkgate = 1#1) (n : Nat) : e.stored .wdga 1#1 n = 1#1 := by
  change e.fields.wdga ||| e.gated 1#1 n = 1#1
  rw [Env.gated_of_open h]
  exact BitVec.or_allOnes

/-- A write to `ewi` that does not clear it takes (log entry 13). -/
theorem Env.stored_ewi (h : e.fields.clkgate = 1#1) {enabled : Bool} (hset : enabled = true ∨ e.fields.ewi = 0#1)
    (n : Nat) : e.stored .ewi (BitVec.ofBool enabled) n = BitVec.ofBool enabled := by
  have hkept : ¬(e.fields.ewi = 1#1 ∧ BitVec.ofBool enabled = 0#1) := by
    obtain rfl | hclear := hset
    · exact fun ⟨_, hzero⟩ => absurd hzero (by decide)
    · exact fun ⟨hone, _⟩ => absurd (hclear.symm.trans hone) (by decide)
  exact (if_neg hkept).trans (Env.gated_of_open h ..)

end OpenGate

/-! ### Words without an operand (30_encoding.md R48) -/

/-- The operand of the three commands of form N is reserved. -/
theorem decode_formN {op : BitVec 8} {i : Instr}
    (h : (op, i) ∈ [(0x20#8, .wwNew), (0x23#8, .wwFeed), (0x24#8, Instr.wwIval)]) (c : Caps) (a : BitVec 32) :
    decode c (op ++ a) = if a = 0#32 then .ok i else .error .reservedBits := by
  change decode c (wordOf op a) = _
  simp only [List.mem_cons, List.not_mem_nil, or_false, Prod.mk.injEq] at h
  obtain ⟨rfl, rfl⟩ | ⟨rfl, rfl⟩ | ⟨rfl, rfl⟩ := h <;> simp [decode, formN]

end Sys2Proof.Machine
end

section
/-! The six commands of the window watchdog (42_wwdg.md R79 to R84): their transactions, and the runs of the four that
have more than one. -/

namespace Sys2Proof.Machine

/-! ### `WW.NEW` (42_wwdg.md R79) and `WW.FEED` (R82, R86) -/

/-- Settles O50: the one write, and a reserved operand. -/
theorem wwNewConstructsTheController : Obligations.WwNewConstructsTheController :=
  ⟨fun _ hs => exec_of_seq hs rfl, decode_formN (by simp)⟩

/-- Settles O55: with `WCK = 1` the one write, and a reserved operand. -/
theorem wwFeedHasNoGuard : Obligations.WwFeedHasNoGuard :=
  ⟨fun s hs hw => exec_of_seq hs (congrArg Host.Outcome.next (State.ifConstructed_of_wck hw _)),
    decode_formN (by simp)⟩

/-! ### `WW.SETWIN` (42_wwdg.md R80) -/

section WwSetwin

variable {s : State} {d : Duration}

theorem exec_wwSetwin_query (hs : s.seq = 0#3) (hw : s.wck = true)
    (hcount : (quantize (instW s.cfg) d s.env.pclk).2 ≠ 0#12) :
    exec (.wwSetwin d) s = .next { s.queryAndQuantize (instW s.cfg) d with seq := 1#3 } := by
  refine exec_of_seq hs (congrArg Host.Outcome.next ?_)
  exact (State.ifConstructed_of_wck hw _).trans (State.ifCounted_of_ne hcount)

theorem exec_wwSetwin_index (hs : s.seq = 1#3) :
    exec (.wwSetwin d) s = .next { s.memWrite .wdgtb (s.pairFor (instW s.cfg) d).1 with seq := 2#3 } :=
  exec_of_seq hs rfl

theorem exec_wwSetwin_window (hs : s.seq = 2#3) :
    exec (.wwSetwin d) s = .next { s.memWrite .w (windowValue s.cfg (s.pairFor (instW s.cfg) d).2) with
      busy := false, seq := 0#3 } := exec_of_seq hs rfl

end WwSetwin

/-- Settles O51: one lemma per transaction. -/
theorem wwSetwinTransactions : Obligations.WwSetwinTransactions := fun _ _ =>
  ⟨exec_wwSetwin_query, exec_wwSetwin_index, exec_wwSetwin_window⟩

/-- Settles O52: the acceptance and the three transactions, with the environment after the command's two writes. -/
theorem wwSetwinRunCommitsTheWindow : Obligations.WwSetwinRunCommitsTheWindow := by
  intro d s rest hs hh hb hp hw hlong p r
  have hd : decode s.cfg.caps (encode (.wwSetwin d)) = .ok (.wwSetwin d) := decode_encode rfl
  have hcount : r ≠ 0#12 := quantize_count_ne_zero s.cfg hlong
  refine ⟨s.env.writes [⟨.wdgtb, p⟩, ⟨.w, windowValue s.cfg r⟩] s.draws, ?_, Env.writes_lsi .., Env.writes_pclk ..,
    Env.writes_unlocked_of_ne_key _ _ _ (by simp), Env.writes_counting_of_ne_key _ _ _ (by simp), fun hgate => ⟨?_, ?_⟩,
    fun fa htb hwin => Env.writes_get_other _ _ _ (by simp [htb, hwin])⟩
  · -- As in the run of `IW.START`, each step's state is brought back to one record over `s`.
    refine steps_of_presented hs hh hb hp ?_
    refine steps_of_exec hs hh rfl hd (exec_wwSetwin_query rfl hw hcount) ?_
    dsimp only [State.accept, State.queryAndQuantize, State.clkQuery, State.emit, State.setPair, State.pairFor,
      freq_instW]
    refine steps_of_exec hs hh rfl hd (exec_wwSetwin_index rfl) ?_
    dsimp only [State.memWrite, State.emit, State.pairFor]
    refine steps_of_exec hs hh rfl hd (exec_wwSetwin_window rfl) ?_
    simp only [State.memWrite_trace, List.append_assoc, List.cons_append, List.nil_append]
    rfl
  · exact (s.env.writes_cons_get_same (fa := .wdgtb) p _ _ (by simp)).trans (Env.gated_of_open hgate ..)
  · exact (Env.writes_cons_get_same (fa := .w) _ _ [] _ (by simp)).trans (Env.gated_of_open hgate ..)

/-! ### `WW.START` (42_wwdg.md R81, R88) -/

section WwStart

variable {s : State} {d : Duration}

theorem exec_wwStart_query (hs : s.seq = 0#3) (hw : s.wck = true) :
    exec (.wwStart d) s = .next { s.queryAndQuantize (instW s.cfg) d with seq := 1#3 } :=
  exec_of_seq hs (congrArg Host.Outcome.next (State.ifConstructed_of_wck hw _))

theorem exec_wwStart_index (hs : s.seq = 1#3) :
    exec (.wwStart d) s = .next { s.memWrite .wdgtb (s.pairFor (instW s.cfg) d).1 with
      rlc := (s.pairFor (instW s.cfg) d).2.setWidth 6, seq := 2#3 } := exec_of_seq hs rfl

theorem exec_wwStart_feed (hs : s.seq = 2#3) :
    exec (.wwStart d) s = .next { s.memWrite .t (counterValue s.cfg s.rlc) with seq := 3#3 } := exec_of_seq hs rfl

theorem exec_wwStart_enable (hs : s.seq = 3#3) :
    exec (.wwStart d) s = .next { s.memWrite .wdga 1#1 with wwdgSt := .running, busy := false, seq := 0#3 } :=
  exec_of_seq hs rfl

end WwStart

/-- Settles O53: one lemma per transaction. -/
theorem wwStartTransactions : Obligations.WwStartTransactions := fun _ _ =>
  ⟨exec_wwStart_query, exec_wwStart_index, exec_wwStart_feed, exec_wwStart_enable⟩

/-- Settles O54: the acceptance and the four transactions, with the environment after the command's three writes. -/
theorem wwStartRunCachesAndEnables : Obligations.WwStartRunCachesAndEnables := by
  intro d s rest hs hh hb hp hw p r
  have hd : decode s.cfg.caps (encode (.wwStart d)) = .ok (.wwStart d) := decode_encode rfl
  refine ⟨s.env.writes [⟨.wdgtb, p⟩, ⟨.t, counterValue s.cfg (r.setWidth 6)⟩, ⟨.wdga, 1#1⟩] s.draws, ?_,
    toNat_setWidth_count .., Env.writes_lsi .., Env.writes_pclk .., Env.writes_unlocked_of_ne_key _ _ _ (by simp),
    Env.writes_counting_of_ne_key _ _ _ (by simp), fun hgate => ⟨?_, ?_, ?_⟩,
    fun fa htb ht hwdga => Env.writes_get_other _ _ _ (by simp [htb, ht, hwdga])⟩
  · refine steps_of_presented hs hh hb hp ?_
    refine steps_of_exec hs hh rfl hd (exec_wwStart_query rfl hw) ?_
    dsimp only [State.accept, State.queryAndQuantize, State.clkQuery, State.emit, State.setPair, State.pairFor,
      freq_instW]
    refine steps_of_exec hs hh rfl hd (exec_wwStart_index rfl) ?_
    dsimp only [State.memWrite, State.emit, State.pairFor]
    refine steps_of_exec hs hh rfl hd (exec_wwStart_feed rfl) ?_
    dsimp only [State.memWrite, State.emit]
    refine steps_of_exec hs hh rfl hd (exec_wwStart_enable rfl) ?_
    simp only [State.memWrite_trace, List.append_assoc, List.cons_append, List.nil_append]
    rfl
  · exact (s.env.writes_cons_get_same (fa := .wdgtb) p _ _ (by simp)).trans (Env.gated_of_open hgate ..)
  · exact (Env.writes_cons_get_same (fa := .t) _ _ [_] _ (by simp)).trans (Env.gated_of_open hgate ..)
  · exact (Env.writes_cons_get_same (fa := .wdga) _ _ [] _ (by simp)).trans (Env.stored_wdga_one hgate _)

/-- Settles O39: the index field takes the new index, and no transaction of `WW.START` names the window. -/
theorem onePrescalerForWindowAndTimeout : Obligations.OnePrescalerForWindowAndTimeout := by
  refine ⟨fun d s t hs hgate h => ?_, fun c hc => ?_⟩
  · cases (exec_wwStart_index hs).symm.trans h
    exact ⟨Env.gated_of_open hgate .., rfl⟩
  · have hinst : instW c = instW Config.default := by simp [instW, hc, Config.default]
    rw [hinst]
    decide

/-! ### `WW.IVAL` (42_wwdg.md R83) -/

section WwIval

variable {s : State}

theorem exec_wwIval_query (hs : s.seq = 0#3) (hw : s.wck = true) :
    exec .wwIval s = .next { s.clkQuery .pclk with seq := 1#3 } :=
  exec_of_seq hs (congrArg Host.Outcome.next (State.ifConstructed_of_wck hw _))

/-- Stated for any value `v`, so that no proof compares two decodes by computing them. -/
theorem exec_wwIval_result {v : Result} (hs : s.seq = 1#3)
    (hv : interval (instW s.cfg) s.env.fields.wdgtb (s.rlc.setWidth 12) s.fq = some v) :
    exec .wwIval s = .next { s.memRead .wdgtb with
      rb := s.env.fields.wdgtb, res := v, busy := false, seq := 0#3 } := by
  simp [exec, execWwIval, hs, State.fieldValue, Fields.get, hv, State.setRes, State.setIndex, State.complete]

theorem exec_wwIval_free (hs : s.seq = 1#3)
    (hv : interval (instW s.cfg) s.env.fields.wdgtb (s.rlc.setWidth 12) s.fq = none) :
    exec .wwIval s = .next { s.memRead .wdgtb with
      rb := s.env.fields.wdgtb, res := Config.draw 64 s.draws, draws := s.draws + 1, busy := false, seq := 0#3 } := by
  simp [exec, execWwIval, hs, State.fieldValue, Fields.get, hv, State.setRes, State.setIndex, State.complete]

end WwIval

/-- Settles O56: the read has a value inside the table at a frequency that is not zero, and none elsewhere. -/
theorem wwIvalTransactions : Obligations.WwIvalTransactions := by
  refine ⟨fun s => ⟨exec_wwIval_query, fun hs hf hp => ?_, fun hs hout => ?_⟩, decode_formN (by simp), fun c => ?_⟩
  · exact exec_wwIval_result hs (interval_eq_some hf hp _)
  · exact exec_wwIval_free hs (interval_eq_none hout _)
  · rw [decodeUs_instW]
    decide

/-- Settles O57: the query and the read are answered with what the environment held at the start. -/
theorem wwIvalRunReportsTheCachedCount : Obligations.WwIvalRunReportsTheCachedCount := by
  intro s rest hs hh hb hp hw hf htable
  have hd : decode s.cfg.caps (encode .wwIval) = .ok .wwIval := decode_encode rfl
  have hv := interval_eq_some (q := instW s.cfg) hf htable (s.rlc.setWidth 12)
  refine steps_of_presented hs hh hb hp ?_
  refine steps_of_exec hs hh rfl hd (exec_wwIval_query rfl hw) ?_
  refine steps_of_exec hs hh rfl hd (exec_wwIval_result rfl hv) ?_
  simp [State.fieldValue, Fields.get, Env.freq]

/-! ### `WW.EWI` (42_wwdg.md R84) -/

section WwEwi

variable {s : State} {enabled : Bool}

theorem exec_wwEwi_field (hs : s.seq = 0#3) (hw : s.wck = true) :
    exec (.wwEwi enabled) s = .next { s.memWrite .ewi (flagOperand enabled) with seq := 1#3 } :=
  exec_of_seq hs (congrArg Host.Outcome.next (State.ifConstructed_of_wck hw _))

theorem exec_wwEwi_mask (hs : s.seq = 1#3) :
    exec (.wwEwi enabled) s = .next { s.memWrite .irqmask (flagOperand enabled) with busy := false, seq := 0#3 } :=
  exec_of_seq hs rfl

end WwEwi

/-- Settles O58: the two writes; the capability is checked before the operand. -/
theorem wwEwiTransactions : Obligations.WwEwiTransactions := by
  refine ⟨fun enabled s => ⟨exec_wwEwi_field, exec_wwEwi_mask⟩, fun c a => ?_⟩
  change decode c (wordOf 0x25#8 a) = _
  cases hc : c.irq <;> simp [decode, ifCap, hc, formB_eq]

/-- Settles O59: the acceptance and the two transactions, with the environment after the command's two writes. -/
theorem wwEwiRunWritesFieldThenMask : Obligations.WwEwiRunWritesFieldThenMask := by
  intro enabled s rest hs hh hb hp hw hcap
  have hd : decode s.cfg.caps (encode (.wwEwi enabled)) = .ok (.wwEwi enabled) := decode_encode hcap
  refine ⟨s.env.writes [⟨.ewi, flagOperand enabled⟩, ⟨.irqmask, flagOperand enabled⟩] s.draws, ?_, Env.writes_lsi ..,
    Env.writes_pclk .., Env.writes_unlocked_of_ne_key _ _ _ (by simp), Env.writes_counting_of_ne_key _ _ _ (by simp),
    fun hgate hset => ?_, Env.writes_cons_get_same (fa := .irqmask) _ _ [] _ (by simp),
    fun fa hewi hmask => Env.writes_get_other _ _ _ (by simp [hewi, hmask])⟩
  · refine steps_of_presented hs hh hb hp ?_
    refine steps_of_exec hs hh rfl hd (exec_wwEwi_field rfl hw) ?_
    dsimp only [State.accept, State.memWrite, State.emit]
    refine steps_of_exec hs hh rfl hd (exec_wwEwi_mask rfl) ?_
    simp only [State.memWrite_trace, List.append_assoc, List.cons_append, List.nil_append]
    rfl
  · exact (s.env.writes_cons_get_same (fa := .ewi) _ _ _ (by simp)).trans (Env.stored_ewi hgate hset _)

end Sys2Proof.Machine
end

section
/-! The checks of a command and fault entry (60_exceptions.md R91, R93 to R96): each check is tied to the step it ends,
and past the state check no command reads `WCK`. -/

namespace Sys2Proof.Machine

/-- Settles O6: fault entry is one record over the state. -/
theorem faultEntryRecordsAndStops : Obligations.FaultEntryRecordsAndStops := fun _ _ => ⟨rfl, rfl, rfl, rfl, rfl⟩

/-! ### A halted block (60_exceptions.md R96) -/

/-- A halted block ignores what is presented, whatever else it holds. -/
theorem wdgqStep_of_halt {s : State} (hh : s.halt = true) : wdgqStep s = .next s.ignoreWord := if_pos hh

/-- Settles O5: WDGQ's turn ignores a word, with or without another writer's writes inside it, and no event but a reset
touches WDGQ's state. -/
theorem haltedBlockChangesNothing : Obligations.HaltedBlockChangesNothing := by
  intro s hh hr
  obtain ⟨-, hstep⟩ | ⟨rest, -, hstep⟩ | ⟨ws, rest, -, hstep⟩ | ⟨e, rest, -, -, hs, hstep⟩ := step_cases s <;>
    rw [hstep]
  · exact ⟨_, _, _, _, wdgqStep_of_halt hh⟩
  · exact ⟨_, _, _, _, wdgqStep_of_halt (s := { s with sched := rest }) hh⟩
  · have hturn := wdgqStep_of_halt (s := { s with sched := rest }) hh
    rw [wdgqStepWithin, hturn]
    dsimp only
    rw [State.interfered_frame]
    exact ⟨_, _, _, _, rfl⟩
  · have hne : e ≠ .reset := fun he => by simp [resetTurn, hs, he] at hr
    rw [State.happen_frame _ e hne]
    exact ⟨_, _, _, _, rfl⟩

/-! ### The state check (60_exceptions.md R93) -/

/-- A command without a state check enters no fault. -/
theorem exec_fault_of_needsWck_false {i : Instr} {s t : State} (hi : needsWck i = false) (h : exec i s = .next t) :
    t.halt = s.halt ∧ t.fault = s.fault := by
  obtain ⟨x, -, hxt⟩ := exec_inv h
  cases hxt with
  | seqerr hneeds => cases hi.symm.trans hneeds
  | wzero d hd =>
    subst hd
    cases hi
  | moves => simp

/-! ### Two states that differ only in `WCK` (10_state.md R17): each part of a transaction keeps them so -/

theorem State.setRes_setWck (s : State) (b : Bool) (v : Option Result) :
    State.setRes { s with wck := b } v = { s.setRes v with wck := b } := by
  cases v <;> rfl

theorem State.perform_setWck (s : State) (b : Bool) (x : Transaction) :
    State.perform { s with wck := b } x = { s.perform x with wck := b } := by
  cases x <;> rfl

theorem State.moveOn_setWck (s : State) (b : Bool) (i : Instr) :
    State.moveOn { s with wck := b } i = { s.moveOn i with wck := b } := by
  unfold State.moveOn
  dsimp only
  split <;> rfl

/-- Only `WW.NEW` writes `WCK`, and with 1 in either state. -/
theorem State.internal_setWck (s : State) (b : Bool) (i : Instr) :
    ∃ b', State.internal { s with wck := b } i = { s.internal i with wck := b' } := by
  cases i with
  | wwNew => exact ⟨true, rfl⟩
  | decI | decW => exact ⟨b, State.setRes_setWck ..⟩
  | iwStart d | wwSetwin d | wwStart d =>
    refine ⟨b, ?_⟩
    unfold State.internal
    dsimp only
    split_ifs <;> rfl
  | iwIval =>
    refine ⟨b, ?_⟩
    unfold State.internal
    dsimp only
    split_ifs
    · rfl
    · exact State.setRes_setWck ..
    · rfl
  | wwIval =>
    refine ⟨b, ?_⟩
    unfold State.internal
    dsimp only
    split_ifs
    · exact State.setRes_setWck (s.setIndex _) b _
    · rfl
  | _ => exact ⟨b, rfl⟩

theorem State.performed_setWck (s : State) (b : Bool) (i : Instr) (x : Transaction) :
    ∃ b', State.performed { s with wck := b } i x = { s.performed i x with wck := b' } := by
  rw [State.performed, State.perform_setWck]
  exact State.internal_setWck ..

theorem named_setWck (i : Instr) (s : State) (b : Bool) : named i { s with wck := b } = named i s := by
  cases i <;> rfl

/-- A transaction that no state check precedes does not read `WCK`. -/
theorem exec_setWck {i : Instr} {s t : State} (b : Bool) (hi : needsWck i = false ∨ s.seq ≠ 0#3)
    (h : exec i s = .next t) : ∃ b', exec i { s with wck := b } = .next { t with wck := b' } := by
  have unchecked : needsWck i = true → s.seq ≠ 0#3 := fun hneeds => hi.resolve_left (by simp [hneeds])
  obtain ⟨x, hx, hxt⟩ := exec_inv h
  cases hxt with
  | seqerr hneeds hs => exact absurd hs (unchecked hneeds)
  | wzero d hd hs => exact absurd hs (unchecked (hd ▸ rfl))
  | moves _ hz =>
    obtain ⟨b', hperformed⟩ := s.performed_setWck b i x
    refine ⟨b', ?_⟩
    rw [exec_moves_on ((named_setWck i s b).trans hx) (fun hneeds hs => absurd hs (unchecked hneeds)) hz, hperformed,
      State.moveOn_setWck]

/-- Settles O8: the state check of the five commands, and the transactions that it does not precede. -/
theorem unconstructedControllerRaisesSeqerr : Obligations.UnconstructedControllerRaisesSeqerr := by
  refine ⟨fun _ _ hi hw hs => exec_raises_seqerr hi hs hw, fun i => ?_,
    fun _ _ _ hi h => exec_fault_of_needsWck_false hi h, fun _ _ _ b hi h => exec_setWck b hi h⟩
  cases i <;> simp [needsWck]

/-! ### The window assertion (60_exceptions.md R91) -/

theorem State.ifCounted_of_eq {s : State} (h : s.qr = 0#12) : s.ifCounted = s.raise .wzero := if_pos h

/-- The count is zero exactly below one counter cycle (42_wwdg.md R80). -/
theorem quantize_count_eq_zero_iff (c : Config) (d : Duration) (f : Freq) :
    (quantize (instW c) d f).2 = 0#12 ↔ d.toNat * f.toNat < 4096000000 := by
  refine ⟨fun hzero => ?_, fun hlt => by rw [quantize_instW_of_lt c hlt]⟩
  by_contra hge
  exact quantize_count_ne_zero c (Nat.le_of_not_lt hge) hzero

/-- Only the query of `WW.SETWIN`, past its state check, raises `WZERO`. -/
theorem exec_fault_eq_wzero {i : Instr} {s t : State} (h : exec i s = .next t) (ht : t.fault = .wzero) :
    s.fault = .wzero ∨ (s.seq = 0#3 ∧ s.wck = true ∧ ∃ d, i = .wwSetwin d) := by
  obtain ⟨x, -, hxt⟩ := exec_inv h
  cases hxt with
  | seqerr => cases ht
  | wzero d hd hs hw => exact .inr ⟨hs, hw, d, hd⟩
  | moves => exact .inl (by simpa using ht)

/-- The query of `WW.SETWIN`, with a zero count. -/
theorem exec_wwSetwin_of_count_eq_zero {d : Duration} {s : State} (hs : s.seq = 0#3) (hw : s.wck = true)
    (hzero : (quantize (instW s.cfg) d s.env.pclk).2 = 0#12) :
    exec (.wwSetwin d) s = .next ((s.queryAndQuantize (instW s.cfg) d).raise .wzero) := by
  refine exec_of_seq hs (congrArg Host.Outcome.next ?_)
  exact (State.ifConstructed_of_wck hw _).trans (State.ifCounted_of_eq hzero)

/-- Settles O9: the zero count ends the query's step in fault entry, and no other step ends so. -/
theorem windowBelowOneCycleRaisesWzero : Obligations.WindowBelowOneCycleRaisesWzero := by
  refine ⟨fun d s hs hw hzero => (exec_wwSetwin_of_count_eq_zero hs hw hzero).trans ?_, quantize_count_eq_zero_iff,
    fun i s t h ht => (exec_fault_eq_wzero h ht).imp_right fun ⟨_, _, hd⟩ => hd⟩
  rw [← hzero]
  rfl

/-! ### The order of the checks (60_exceptions.md R95) -/

/-- Settles O10: one lemma per check, in the order in which a step of WDGQ makes them. -/
theorem faultChecksComeInOrder : Obligations.FaultChecksComeInOrder := by
  refine fun s => ⟨fun hh => ⟨_, wdgqStep_of_halt hh⟩, fun hh hb ⟨e, hd⟩ => wdgqStep_of_decode_error hh hb hd,
    fun i hh hb hd hs hi hw => (wdgqStep_of_decode hh hb hd).trans (exec_raises_seqerr hi hs hw),
    fun t hh hb h ht hfault => ?_⟩
  cases hd : decode s.cfg.caps s.cmdr with
  | ok i =>
    obtain hsame | ⟨hs, hw, d, rfl⟩ := exec_fault_eq_wzero ((wdgqStep_of_decode hh hb hd).symm.trans h) ht
    · exact absurd hsame hfault
    · exact ⟨hs, hw, d, rfl⟩
  | error e =>
    cases (wdgqStep_of_decode_error hh hb hd).symm.trans h
    cases ht

end Sys2Proof.Machine
end

section
/-! What a register write leaves in the environment (60_exceptions.md R102, 10_state.md R22, R23). -/

namespace Sys2Proof.Machine

/-- Settles O20: one lemma per clause, each about one write or one change of the environment's own. -/
theorem keysAndStickyEnable : Obligations.KeysAndStickyEnable := fun e n =>
  ⟨e.write_keyUnlock_unlocked n, e.write_keyFeed_unlocked n, e.write_keyStart_counting n,
    fun h fa v => Env.write_counting h fa v n,
    fun h => ⟨fun v => (e.write_get_same .pr v n).trans (Env.stored_pr_of_unlocked h v n),
      fun v => (e.write_get_same .rl v n).trans (Env.stored_rl_of_unlocked h v n)⟩,
    fun h fa v => Env.write_wdga h fa v n,
    Env.drift_wdga,
    fun fa v => ⟨e.write_lsi fa v n, e.write_pclk fa v n⟩,
    fun _ v hne => ⟨e.write_unlocked_of_ne_key v n hne, e.write_counting_of_ne_key v n hne⟩⟩

end Sys2Proof.Machine
end

section
/-! Events between two steps of a command: the reset (70_reset_and_hazards.md R109, R110) and an intruder's key inside
the unlock scope of `IW.START` (R117). -/

namespace Sys2Proof.Machine

/-- An event of another agent, when it is the next one. -/
theorem step_of_event {s : State} {e : Event} {rest : List Event} (hs : s.sched = e :: rest) (hturn : e ≠ .wdgq)
    (hwithin : ∀ ws, e ≠ .within ws) : step s = .next ({ s with sched := rest }.happen e) := by
  cases e with
  | wdgq => exact absurd rfl hturn
  | within ws => exact absurd rfl (hwithin ws)
  | _ => simp only [step, nextMove, hs]

/-- Settles O2: the event's effect is the reset state, with what was emitted kept as `earlier`. -/
theorem resetAbandonsTheCommandInProgress : Obligations.ResetAbandonsTheCommandInProgress := by
  intro s rest hs
  have hreset : step s = .next (State.resetNow { s with sched := rest }) := step_of_event hs (by simp) (by simp)
  refine ⟨hreset, fun t ht => ?_⟩
  cases hreset.symm.trans ht
  exact ⟨rfl, rfl, rfl⟩

theorem Env.stored_pr_of_locked {e : Env} (h : e.unlocked = false) (v : BitVec 3) (n : Nat) :
    e.stored .pr v n = Config.draw 3 n := by
  simp [Env.stored, Env.ifUnlocked, h]

/-- Settles O38: the first step is the intruder's key, which changes the environment alone; the second performs
transaction [2] as always, on a field that is locked again. -/
theorem intruderCanCloseTheScope : Obligations.IntruderCanCloseTheScope := by
  intro d s hs hh hb hc hseq
  have hd : decode s.cfg.caps s.cmdr = .ok (.iwStart d) := hc ▸ decode_encode rfl
  have hlocked : (s.env.write .key keyFeed s.draws).unlocked = false := s.env.write_keyFeed_unlocked s.draws
  refine ⟨_, (steps_succ (step_of_event hs (by simp) (by simp))).trans
    (steps_of_exec rfl hh hb hd (exec_iwStart_index d hseq) (steps_zero _)), rfl, rfl, hh, ?_, s.draws + writeDraws, ?_⟩
  · exact (Env.write_unlocked_of_ne_key _ _ _ (by simp)).trans hlocked
  · exact (Env.write_get_same _ .pr _ _).trans (Env.stored_pr_of_locked hlocked _ _)

end Sys2Proof.Machine
end
